-- ==== Sys2Proof/Word.lean ====
section
/-! DEFINITION. The block's word types, each an unsigned bit vector of the width the spec states
(00_scope.md R5, R6, R10; 10_state.md R21). The block has no bytes (20_memory.md R70). -/

namespace Sys2Proof

/-- A duration in microseconds, DUR_W = 16 bits (00_scope.md R6). -/
abbrev Duration := BitVec 16

/-- remoteId, 24 bits (30_encoding.md R96). -/
abbrev RemoteId := BitVec 24

/-- channelRaw or commandRaw, an opaque 4-bit number (30_encoding.md R99, R100). -/
abbrev Nibble := BitVec 4

/-- A frame's checksum field, 8 bits (30_encoding.md R96). -/
abbrev CheckByte := BitVec 8

/-- A 40-bit frame word: frame bit `i` is register bit `39 - i` (00_scope.md R9). -/
abbrev FrameWord := BitVec 40

/-- A word of RX_DATA or TX_DATA: bit 16 `last`, bits 15:0 the value (30_encoding.md R103). -/
abbrev PortWord := BitVec 17

/-- What a register read returns, wide enough for the widest register (20_memory.md R61). -/
abbrev RegValue := BitVec 40

end Sys2Proof
end

