-- ==== Sys2Proof/Config.lean ====
section
/-! DEFINITION. What is fixed for the life of a machine, is no state (10_state.md R39) and has no value in the spec:
the open checksum function of 43_checksum.md R183. The constants of 00_scope.md R5 are the widths of the word types
and the numbers 40, 80, 82 and 83 of the definitions that use them. -/

namespace Sys2Proof

/-- The open checksum function away from its one known point (43_checksum.md R183, 93_implementation_defined.md
I1). It has no body: a claim proved of it holds for every such function (log entry 3). -/
opaque Config.openChecksum : RemoteId → Nibble → Nibble → CheckByte

end Sys2Proof
end

