-- ==== Sys2Proof/Syntax.lean ====
section
/-! DEFINITION. The syntax: the rows of the opcode table as one inductive type, with the names the rows speak of
(pulse categories, error codes), the formats of the table, the registers and the host's events. -/

namespace Sys2Proof

/-- A pulse category (30_encoding.md R92). -/
inductive Category where
  | unknown
  | short
  | long
  | sync
  | gap
deriving DecidableEq, Repr

/-- The error of a burst: the four 2-bit codes of 30_encoding.md R108. ChecksumMismatch has no code. -/
inductive ErrCode where
  | noError
  | malformedPulsePair
  | unexpectedLength
  | lengthMismatch
deriving DecidableEq, Repr

/-- Where in a train a symbol stands (30_encoding.md R101). The preamble is known by its place, not by a category
of its own (90_conflicts.md C2). -/
inductive Place where
  | preamble
  | sync
  | data
  | endGap
deriving DecidableEq, Repr

/-- The formats of the opcode table (30_encoding.md R111). A word is read in the format of the place it stands in:
the same three bits are an op code in CMD and a category code in a BITDEC sample. -/
inductive Format where
  | op
  | pseudo
  | frame40
  | symbol (p : Place)
  | train
  | port17
  | catcode
  | errcode
deriving DecidableEq, Repr

/-- The registers of 10_state.md R21, by name. -/
inductive Reg where
  | shortMin | shortMax | longMin | longMax | syncMin | syncMax | gapMin | gapMax
  | tPreamble | tSync | tShort | tLong | tGap | ckCtrl
  | opDur | fRemote | fChannel | fCommand | fChecksum
  | cmd | status | resCat | resCk
  | rxStatus | rxRemote | rxChannel | rxCommand | rxChecksum | rxExpected | rxBits
  | rxData | txData
deriving DecidableEq, Repr

/-- An event the host issues (00_scope.md R7), and reset (70_reset_and_hazards.md R250). `present` is the model's
own: the words of a table row, in the row's format, put to the block (log entry 4). -/
inductive HostEvent where
  /-- `RegWrite(n, v)`, `v` of any width (20_memory.md R61). -/
  | regWrite (n v : Nat)
  /-- `RegRead(n)`. -/
  | regRead (n : Nat)
  /-- The platform's reset line. -/
  | reset
  /-- The words of one table row in its format. -/
  | present (f : Format) (words : List Nat)
deriving DecidableEq, Repr

/-- One constructor per row of spec/opcode_table.json. -/
inductive Instr where
  /-- RESERVED0, op code 0 (45_control.md R215). -/
  | reserved0
  /-- CLASSIFY, op code 1 (40_classifier.md R131). -/
  | classify
  /-- RXBURST, op code 2 (42_framecodec_decode.md R167). -/
  | rxburst
  /-- BITDEC, op code 3 (41_bitdecoder.md R140). -/
  | bitdec
  /-- FDEC, op code 4 (42_framecodec_decode.md R160). -/
  | fdec
  /-- CKSUM, op code 5 (43_checksum.md R184). -/
  | cksum
  /-- FENC, op code 6 (44_framecodec_encode.md R190). -/
  | fenc
  /-- SRESET, op code 7 (45_control.md R214). -/
  | sreset
  /-- TXFRAME r, h, c (44_framecodec_encode.md R194). -/
  | txframe (r : RemoteId) (h c : Nibble)
  /-- VALIDATE r, h, c, k (30_encoding.md R106). -/
  | validate (r : RemoteId) (h c : Nibble) (k : CheckByte)
  /-- The frame word, fields in order of transmission (30_encoding.md R96). -/
  | frame40 (r : RemoteId) (h c : Nibble) (k : CheckByte)
  /-- The data symbol SHORT, LONG (30_encoding.md R94). -/
  | bit0
  /-- The data symbol LONG, SHORT (30_encoding.md R94). -/
  | bit1
  /-- Any other pair of categories, first received first (30_encoding.md R94). -/
  | badpair (a b : Category)
  /-- A pulse before the sync: any category but SYNC (30_encoding.md R101). -/
  | preamble (c : Category)
  /-- The sync pulse (30_encoding.md R101). -/
  | sync
  /-- The end-gap pulse (30_encoding.md R101). -/
  | endgap
  /-- The 83 pulses of a frame word, with the category its preamble decodes as (30_encoding.md R101). -/
  | train (p : Category) (w : FrameWord)
  /-- A port word (30_encoding.md R103). -/
  | portword (last : Bool) (v : Duration)
  /-- Category code 0 (30_encoding.md R92). -/
  | catUnknown
  /-- Category code 1. -/
  | catShort
  /-- Category code 2. -/
  | catLong
  /-- Category code 3. -/
  | catSync
  /-- Category code 4. -/
  | catGap
  /-- Error code 0 (30_encoding.md R108). -/
  | errNone
  /-- Error code 1. -/
  | errMalformedPulsePair
  /-- Error code 2. -/
  | errUnexpectedLength
  /-- Error code 3. -/
  | errLengthMismatch
deriving DecidableEq, Repr

end Sys2Proof
end

