-- ==== Sys2Proof/WellFormed.lean ====
section
/-! DEFINITION. Which terms of `Instr` stand for words of the table. Every 40-bit frame is legal
(30_encoding.md R112) and every port word is; only three rows restrict their categories. -/

namespace Sys2Proof

/-- The pair is one of the two data symbols of 30_encoding.md R94. -/
def isDataPair : Category → Category → Bool
  | .short, .long => true
  | .long, .short => true
  | _, _ => false

/-- A term of `Instr` that some words of the table encode: BADPAIR holds no data symbol (R94), PREAMBLE and the
preamble of TRAIN are "anything but SYNC" (R101). -/
def Instr.wellFormed : Instr → Bool
  | .badpair a b => !isDataPair a b
  | .preamble c => decide (c ≠ .sync)
  | .train p _ => decide (p ≠ .sync)
  | .reserved0 | .classify | .rxburst | .bitdec | .fdec | .cksum | .fenc | .sreset => true
  | .txframe _ _ _ | .validate _ _ _ _ | .frame40 _ _ _ _ | .portword _ _ => true
  | .bit0 | .bit1 | .sync | .endgap => true
  | .catUnknown | .catShort | .catLong | .catSync | .catGap => true
  | .errNone | .errMalformedPulsePair | .errUnexpectedLength | .errLengthMismatch => true

end Sys2Proof
end

