-- ==== Sys2Proof/Decode.lean ====
section
/-! DEFINITION. The encodings of the spec read and written: category and error codes, the pair table, frame bits,
register numbers, the decoder of each format of the opcode table and its encoder. -/

namespace Sys2Proof

/-! ### Category codes, pairs and error codes -/

/-- The 3-bit code of a category (30_encoding.md R92). -/
def Category.code : Category → BitVec 3
  | .unknown => 0
  | .short => 1
  | .long => 2
  | .sync => 3
  | .gap => 4

/-- CatDecode: the reserved codes 5, 6, 7 read as UNKNOWN (30_encoding.md R93). -/
def catDecode (c : BitVec 3) : Category :=
  match c.toNat with
  | 1 => .short
  | 2 => .long
  | 3 => .sync
  | 4 => .gap
  | _ => .unknown

/-- PairBit: `some b` is Ok(b), `none` is Err(MalformedPulsePair) (30_encoding.md R94). -/
def pairBit : Category → Category → Option Bool
  | .short, .long => some false
  | .long, .short => some true
  | _, _ => none

/-- The pair sent for a bit, first pulse first (30_encoding.md R95). -/
def bitPair : Bool → Category × Category
  | false => (.short, .long)
  | true => (.long, .short)

/-- The 2-bit code of an error (30_encoding.md R108). -/
def ErrCode.code : ErrCode → BitVec 2
  | .noError => 0
  | .malformedPulsePair => 1
  | .unexpectedLength => 2
  | .lengthMismatch => 3

/-! ### Frame words and their bits -/

/-- Frame bit `i`, 0 first on air (00_scope.md R9, 30_encoding.md R98). -/
def frameBit (w : FrameWord) (i : Nat) : Bool := w.getLsbD (39 - i)

/-- The 40 frame bits in order of transmission (30_encoding.md R98). -/
def frameBits (w : FrameWord) : List Bool := (List.range 40).map (frameBit w)

/-- trunc_40(sr ‖ b): one bit shifted in at the least significant end (10_state.md R36). -/
def shiftIn (sr : FrameWord) (b : Bool) : FrameWord := (sr ++ BitVec.ofBool b).setWidth 40

/-- The word of a bit string, first bit most significant; of more than 40 bits the last 40 (30_encoding.md R97). -/
def wordOfBits (bits : List Bool) : FrameWord := bits.foldl shiftIn 0

/-- remoteId, channelRaw, commandRaw and checksum side by side (30_encoding.md R98; 90_conflicts.md C5). -/
def frameOf (r : RemoteId) (h c : Nibble) (k : CheckByte) : FrameWord := r ++ h ++ c ++ k

/-- `w[39:16]` (30_encoding.md R97). -/
def wordRemote (w : FrameWord) : RemoteId := w.extractLsb' 16 24

/-- `w[15:12]` (30_encoding.md R97). -/
def wordChannel (w : FrameWord) : Nibble := w.extractLsb' 12 4

/-- `w[11:8]` (30_encoding.md R97). -/
def wordCommand (w : FrameWord) : Nibble := w.extractLsb' 8 4

/-- `w[7:0]` (30_encoding.md R97). -/
def wordCheck (w : FrameWord) : CheckByte := w.extractLsb' 0 8

/-! ### Register numbers -/

/-- The register of a number; every other number is unmapped (10_state.md R21, 20_memory.md R63). -/
def regOfNum : Nat → Option Reg
  | 0x00 => some .shortMin
  | 0x01 => some .shortMax
  | 0x02 => some .longMin
  | 0x03 => some .longMax
  | 0x04 => some .syncMin
  | 0x05 => some .syncMax
  | 0x06 => some .gapMin
  | 0x07 => some .gapMax
  | 0x08 => some .tPreamble
  | 0x09 => some .tSync
  | 0x0A => some .tShort
  | 0x0B => some .tLong
  | 0x0C => some .tGap
  | 0x0D => some .ckCtrl
  | 0x10 => some .opDur
  | 0x11 => some .fRemote
  | 0x12 => some .fChannel
  | 0x13 => some .fCommand
  | 0x14 => some .fChecksum
  | 0x18 => some .cmd
  | 0x19 => some .status
  | 0x1A => some .resCat
  | 0x1B => some .resCk
  | 0x20 => some .rxStatus
  | 0x21 => some .rxRemote
  | 0x22 => some .rxChannel
  | 0x23 => some .rxCommand
  | 0x24 => some .rxChecksum
  | 0x25 => some .rxExpected
  | 0x26 => some .rxBits
  | 0x30 => some .rxData
  | 0x31 => some .txData
  | _ => none

/-- The number of a register (10_state.md R21). -/
def Reg.num : Reg → Nat
  | .shortMin => 0x00
  | .shortMax => 0x01
  | .longMin => 0x02
  | .longMax => 0x03
  | .syncMin => 0x04
  | .syncMax => 0x05
  | .gapMin => 0x06
  | .gapMax => 0x07
  | .tPreamble => 0x08
  | .tSync => 0x09
  | .tShort => 0x0A
  | .tLong => 0x0B
  | .tGap => 0x0C
  | .ckCtrl => 0x0D
  | .opDur => 0x10
  | .fRemote => 0x11
  | .fChannel => 0x12
  | .fCommand => 0x13
  | .fChecksum => 0x14
  | .cmd => 0x18
  | .status => 0x19
  | .resCat => 0x1A
  | .resCk => 0x1B
  | .rxStatus => 0x20
  | .rxRemote => 0x21
  | .rxChannel => 0x22
  | .rxCommand => 0x23
  | .rxChecksum => 0x24
  | .rxExpected => 0x25
  | .rxBits => 0x26
  | .rxData => 0x30
  | .txData => 0x31

/-- The width of a register in bits (10_state.md R21). -/
def Reg.width : Reg → Nat
  | .shortMin | .shortMax | .longMin | .longMax | .syncMin | .syncMax | .gapMin | .gapMax => 16
  | .tPreamble | .tSync | .tShort | .tLong | .tGap | .ckCtrl | .opDur => 16
  | .fRemote | .rxRemote => 24
  | .fChannel | .fCommand | .rxChannel | .rxCommand => 4
  | .fChecksum | .status | .resCk | .rxChecksum | .rxExpected => 8
  | .cmd | .resCat => 3
  | .rxStatus => 5
  | .rxBits => 40
  | .rxData | .txData => 17

/-- One of the fourteen configuration registers, locked while an engine is busy (20_memory.md R64). -/
def Reg.isConfig : Reg → Bool
  | .shortMin | .shortMax | .longMin | .longMax | .syncMin | .syncMax | .gapMin | .gapMax => true
  | .tPreamble | .tSync | .tShort | .tLong | .tGap | .ckCtrl => true
  | _ => false

/-- One of the five operand registers, always writable (10_state.md R25). -/
def Reg.isOperand : Reg → Bool
  | .opDur | .fRemote | .fChannel | .fCommand | .fChecksum => true
  | _ => false

/-! ### The decoder -/

/-- Why words do not fit a format. What becomes of such words is the model's choice (log entry 10). -/
inductive DecodeError where
  /-- The format takes another number of words. -/
  | wordCount
  /-- SYNC stands in the preamble's place (30_encoding.md R101). -/
  | syncInPreamblePlace
  /-- Another category than SYNC stands in the sync's place. -/
  | syncExpected
  /-- Another category than GAP stands in the end-gap's place. -/
  | gapExpected
  /-- A pair of a train is no data symbol. -/
  | trainPairMalformed
  /-- A pseudo-operation's command word selects another operation than its expansion does. -/
  | pseudoOpCode
deriving DecidableEq, Repr

/-- The category of a word's low three bits (30_encoding.md R103). -/
def catOfWord (w : Nat) : Category := catDecode (BitVec.ofNat 3 w)

/-- The operation selected by `v[2:0]`, higher bits ignored (30_encoding.md R104, R109). -/
def decodeOp (v : Nat) : Instr :=
  match (BitVec.ofNat 3 v).toNat with
  | 0 => .reserved0
  | 1 => .classify
  | 2 => .rxburst
  | 3 => .bitdec
  | 4 => .fdec
  | 5 => .cksum
  | 6 => .fenc
  | _ => .sreset

/-- The category row of a code (30_encoding.md R92, R93). -/
def instrOfCategory : Category → Instr
  | .unknown => .catUnknown
  | .short => .catShort
  | .long => .catLong
  | .sync => .catSync
  | .gap => .catGap

/-- The error row of the low two bits (30_encoding.md R108). -/
def decodeErr (v : Nat) : Instr :=
  match (BitVec.ofNat 2 v).toNat with
  | 0 => .errNone
  | 1 => .errMalformedPulsePair
  | 2 => .errUnexpectedLength
  | _ => .errLengthMismatch

/-- The data symbol of a pair (30_encoding.md R94). -/
def decodePair (a b : Category) : Instr :=
  match pairBit a b with
  | some false => .bit0
  | some true => .bit1
  | none => .badpair a b

/-- The bits of a run of whole data symbols. -/
def pairsToBits : List Nat → Option (List Bool)
  | [] => some []
  | [_] => none
  | a :: b :: rest =>
    match pairBit (catOfWord a) (catOfWord b), pairsToBits rest with
    | some x, some xs => some (x :: xs)
    | _, _ => none

/-- The train of 83 category codes (30_encoding.md R101). -/
def decodeTrain : List Nat → Except DecodeError Instr
  | p :: y :: rest =>
    if rest.length ≠ 81 then .error .wordCount
    else if catOfWord p = .sync then .error .syncInPreamblePlace
    else if catOfWord y ≠ .sync then .error .syncExpected
    else if (rest.drop 80).map catOfWord ≠ [.gap] then .error .gapExpected
    else
      match pairsToBits (rest.take 80) with
      | some bits => .ok (.train (catOfWord p) (wordOfBits bits))
      | none => .error .trainPairMalformed
  | _ => .error .wordCount

/-- The symbol of a place (30_encoding.md R94, R101). -/
def decodeSymbol : Place → List Nat → Except DecodeError Instr
  | .preamble, [a] => if catOfWord a = .sync then .error .syncInPreamblePlace else .ok (.preamble (catOfWord a))
  | .sync, [a] => if catOfWord a = .sync then .ok .sync else .error .syncExpected
  | .endGap, [a] => if catOfWord a = .gap then .ok .endgap else .error .gapExpected
  | .data, [a, b] => .ok (decodePair (catOfWord a) (catOfWord b))
  | _, _ => .error .wordCount

/-- A pseudo-operation, given as the values its expansion writes (30_encoding.md R106): the operand writes, the
command word, and for VALIDATE the checksum the host compares with. -/
def decodePseudo : List Nat → Except DecodeError Instr
  | [r, h, c, v] =>
    if decodeOp v = .fenc then .ok (.txframe (BitVec.ofNat 24 r) (BitVec.ofNat 4 h) (BitVec.ofNat 4 c))
    else .error .pseudoOpCode
  | [r, h, c, v, k] =>
    if decodeOp v = .cksum then
      .ok (.validate (BitVec.ofNat 24 r) (BitVec.ofNat 4 h) (BitVec.ofNat 4 c) (BitVec.ofNat 8 k))
    else .error .pseudoOpCode
  | _ => .error .wordCount

/-- The decoder: the words of one row, read in the row's format. -/
def decode : Format → List Nat → Except DecodeError Instr
  | .op, [v] => .ok (decodeOp v)
  | .pseudo, ws => decodePseudo ws
  | .frame40, [v] =>
    let w : FrameWord := BitVec.ofNat 40 v
    .ok (.frame40 (wordRemote w) (wordChannel w) (wordCommand w) (wordCheck w))
  | .symbol p, ws => decodeSymbol p ws
  | .train, ws => decodeTrain ws
  | .port17, [v] => .ok (.portword (v.testBit 16) (BitVec.ofNat 16 v))
  | .catcode, [v] => .ok (instrOfCategory (catOfWord v))
  | .errcode, [v] => .ok (decodeErr v)
  | _, _ => .error .wordCount

/-! ### The encoder -/

/-- The format of a row (30_encoding.md R111). -/
def Instr.format : Instr → Format
  | .reserved0 | .classify | .rxburst | .bitdec | .fdec | .cksum | .fenc | .sreset => .op
  | .txframe _ _ _ | .validate _ _ _ _ => .pseudo
  | .frame40 _ _ _ _ => .frame40
  | .bit0 | .bit1 | .badpair _ _ => .symbol .data
  | .preamble _ => .symbol .preamble
  | .sync => .symbol .sync
  | .endgap => .symbol .endGap
  | .train _ _ => .train
  | .portword _ _ => .port17
  | .catUnknown | .catShort | .catLong | .catSync | .catGap => .catcode
  | .errNone | .errMalformedPulsePair | .errUnexpectedLength | .errLengthMismatch => .errcode

/-- The code of a category as a sample word. -/
def Category.word (c : Category) : Nat := c.code.toNat

/-- The two category codes of a data symbol. -/
def pairWords (p : Category × Category) : List Nat := [p.1.word, p.2.word]

/-- The words of an instruction in its own format. -/
def encode : Instr → List Nat
  | .reserved0 => [0]
  | .classify => [1]
  | .rxburst => [2]
  | .bitdec => [3]
  | .fdec => [4]
  | .cksum => [5]
  | .fenc => [6]
  | .sreset => [7]
  | .txframe r h c => [r.toNat, h.toNat, c.toNat, 6]
  | .validate r h c k => [r.toNat, h.toNat, c.toNat, 5, k.toNat]
  | .frame40 r h c k => [(frameOf r h c k).toNat]
  | .bit0 => pairWords (bitPair false)
  | .bit1 => pairWords (bitPair true)
  | .badpair a b => pairWords (a, b)
  | .preamble c => [c.word]
  | .sync => [Category.sync.word]
  | .endgap => [Category.gap.word]
  | .train p w =>
    p.word :: Category.sync.word :: ((frameBits w).flatMap fun b => pairWords (bitPair b)) ++ [Category.gap.word]
  | .portword last v => [(BitVec.ofBool last ++ v).toNat]
  | .catUnknown => [Category.unknown.word]
  | .catShort => [Category.short.word]
  | .catLong => [Category.long.word]
  | .catSync => [Category.sync.word]
  | .catGap => [Category.gap.word]
  | .errNone => [0]
  | .errMalformedPulsePair => [1]
  | .errUnexpectedLength => [2]
  | .errLengthMismatch => [3]

/-! ### Words of the opcode table, one number each -/

/-- The format in which one whole-byte word of the table is read: 8 bits a CMD word, 24 bits a port word, 40 bits
a frame word (log entry 8). -/
def tableFormat (nbits : Nat) : Option Format :=
  if nbits = 8 then some .op else if nbits = 24 then some .port17 else if nbits = 40 then some .frame40 else none

/-- The instruction the decoder reads from an opcode-table word. -/
def decodeTableWord (nbits w : Nat) : Option Instr :=
  match tableFormat nbits with
  | some f =>
    match decode f [w] with
    | .ok i => some i
    | .error _ => none
  | none => none

end Sys2Proof
end

