-- ==== Sys2Proof/Machine/State.lean ====
section
/-! DEFINITION. The state of the block (10_state.md R20), plain data, the host's side of the interface beside it, and
the state after reset (10_state.md R44). -/

namespace Sys2Proof.Machine

/-- The configuration registers 0x00 to 0x0D (10_state.md R22, R23, R24). -/
structure CfgRegs where
  shortMin : BitVec 16
  shortMax : BitVec 16
  longMin : BitVec 16
  longMax : BitVec 16
  syncMin : BitVec 16
  syncMax : BitVec 16
  gapMin : BitVec 16
  gapMax : BitVec 16
  tPreamble : BitVec 16
  tSync : BitVec 16
  tShort : BitVec 16
  tLong : BitVec 16
  tGap : BitVec 16
  /-- CK_CTRL: bit 0 CK_MODE, bits 7:1 hardwired zero, bits 15:8 CK_CONST. -/
  ckCtrl : BitVec 16
deriving DecidableEq, Repr

/-- The operand registers 0x10 to 0x14 (10_state.md R25). -/
structure OperandRegs where
  opDur : Duration
  fRemote : RemoteId
  fChannel : Nibble
  fCommand : Nibble
  fChecksum : CheckByte
deriving DecidableEq, Repr

/-- The stored bits of STATUS (10_state.md R27). Bit 0, rx_busy, is not stored. -/
structure StatusBits where
  txBusy : Bool
  rxDone : Bool
  txDone : Bool
  illOp : Bool
  busyErr : Bool
  rxOvr : Bool
  txUdr : Bool
deriving DecidableEq, Repr

/-- The RX result registers 0x20 to 0x26; the first four fields are RX_STATUS (10_state.md R29). -/
structure RxResults where
  ok : Bool
  err : ErrCode
  ckValid : Bool
  gapSeen : Bool
  remote : RemoteId
  channel : Nibble
  command : Nibble
  checksum : CheckByte
  expected : CheckByte
  bits : FrameWord
deriving DecidableEq, Repr

/-- rx_phase (10_state.md R33). -/
inductive RxPhase where
  | idle
  | hunt
  | data
  | tail
  | flush
  | bits
deriving DecidableEq, Repr

/-- rx_mode (10_state.md R34). -/
inductive RxMode where
  | dur
  | cat
  | bit
deriving DecidableEq, Repr

/-- The internal state of the RX engine (10_state.md R32). -/
structure RxEngine where
  phase : RxPhase
  mode : RxMode
  half : Bool
  first : BitVec 3
  cnt : BitVec 6
  sr : FrameWord
  err : ErrCode
  gap : Bool
deriving DecidableEq, Repr

/-- The internal state of the TX engine (10_state.md R38). -/
structure TxEngine where
  word : FrameWord
  idx : BitVec 7
deriving DecidableEq, Repr

/-- The host's side of the interface: no state of the block but the model's own (log entries 1, 2). -/
structure HostSide where
  /-- The events the host will issue, the next one first. -/
  pending : List HostEvent
  /-- The values register reads have returned, oldest first. -/
  returned : List RegValue
  /-- What the software comparison of the last VALIDATE said (30_encoding.md R106). -/
  verdict : Option Bool
deriving DecidableEq, Repr

/-- All the state of 10_state.md R20, and the host's side. -/
structure State where
  cfg : CfgRegs
  opr : OperandRegs
  flags : StatusBits
  resCat : BitVec 3
  resCk : BitVec 8
  rxRes : RxResults
  rx : RxEngine
  tx : TxEngine
  host : HostSide
deriving DecidableEq, Repr

/-- Why the block faults: it never does, every event is defined in every state (60_exceptions.md R231). -/
inductive Fault where
deriving DecidableEq, Repr

/-- Why the model refuses: it never does, since every event is defined in every state (60_exceptions.md R231). -/
inductive Refusal where
  /-- Raised by `exec` for a row without a meaning; no row is without one. Safe: the run stops. -/
  | notModelled (mnemonic : String)
deriving DecidableEq, Repr

/-! ### Updates of one part each -/

/-- The state with other configuration registers. -/
def State.withCfg (s : State) (x : CfgRegs) : State := { s with cfg := x }

/-- The state with other operand registers. -/
def State.withOpr (s : State) (x : OperandRegs) : State := { s with opr := x }

/-- The state with other STATUS bits. -/
def State.withFlags (s : State) (x : StatusBits) : State := { s with flags := x }

/-- The state with another RES_CAT. -/
def State.withResCat (s : State) (x : BitVec 3) : State := { s with resCat := x }

/-- The state with another RES_CK. -/
def State.withResCk (s : State) (x : BitVec 8) : State := { s with resCk := x }

/-- The state with other RX result registers. -/
def State.withRxRes (s : State) (x : RxResults) : State := { s with rxRes := x }

/-- The state with another RX engine. -/
def State.withRx (s : State) (x : RxEngine) : State := { s with rx := x }

/-- The state with another TX engine. -/
def State.withTx (s : State) (x : TxEngine) : State := { s with tx := x }

/-- The state with another host side. -/
def State.withHost (s : State) (x : HostSide) : State := { s with host := x }

/-! ### Reset -/

/-- RX result registers all zero. -/
def RxResults.zero : RxResults where
  ok := false
  err := .noError
  ckValid := false
  gapSeen := false
  remote := 0
  channel := 0
  command := 0
  checksum := 0
  expected := 0
  bits := 0

/-- The state after reset (10_state.md R44; 70_reset_and_hazards.md R250). The host's side is empty: log entries
1 and 2. -/
def State.reset : State where
  cfg :=
    { shortMin := 420, shortMax := 510, longMin := 1050, longMax := 1110
      syncMin := 2370, syncMax := 2400, gapMin := 6500, gapMax := 7500
      tPreamble := 700, tSync := 2400, tShort := 458, tLong := 1059, tGap := 7000
      ckCtrl := 0x3200 }
  opr := { opDur := 0, fRemote := 0, fChannel := 0, fCommand := 0, fChecksum := 0 }
  flags :=
    { txBusy := false, rxDone := false, txDone := false
      illOp := false, busyErr := false, rxOvr := false, txUdr := false }
  resCat := 0
  resCk := 0
  rxRes := RxResults.zero
  rx := { phase := .idle, mode := .dur, half := false, first := 0, cnt := 0, sr := 0, err := .noError, gap := false }
  tx := { word := 0, idx := 0 }
  host := { pending := [], returned := [], verdict := none }

end Sys2Proof.Machine
end

