-- ==== Sys2Proof/Machine/Flags.lean ====
section
/-! DEFINITION. The flags: the busy tests, STATUS and RX_STATUS read as words, each flag update of the spec, and
write one to clear. -/

namespace Sys2Proof.Machine

/-- The RX engine is busy: rx_phase is not IDLE (10_state.md R27, R30). -/
def State.rxBusy (s : State) : Bool := decide (s.rx.phase ≠ .idle)

/-- The TX engine is busy (10_state.md R27, R30). -/
def State.txBusy (s : State) : Bool := s.flags.txBusy

/-- STATUS as a word, bit 7 first (10_state.md R27). -/
def State.statusWord (s : State) : BitVec 8 :=
  BitVec.ofBool s.flags.txUdr ++ BitVec.ofBool s.flags.rxOvr ++ BitVec.ofBool s.flags.busyErr ++
    BitVec.ofBool s.flags.illOp ++ BitVec.ofBool s.flags.txDone ++ BitVec.ofBool s.flags.rxDone ++
    BitVec.ofBool s.flags.txBusy ++ BitVec.ofBool s.rxBusy

/-- RX_STATUS as a word, bit 4 first (10_state.md R29). -/
def RxResults.statusWord (x : RxResults) : BitVec 5 :=
  BitVec.ofBool x.gapSeen ++ BitVec.ofBool x.ckValid ++ x.err.code ++ BitVec.ofBool x.ok

/-- STATUS.ill_op ← 1 (45_control.md R215). -/
def setIllOp (s : State) : State := s.withFlags { s.flags with illOp := true }

/-- STATUS.busy_err ← 1 and nothing else: a refused command or configuration write (45_control.md R211,
20_memory.md R64). -/
def setBusyErr (s : State) : State := s.withFlags { s.flags with busyErr := true }

/-- STATUS.rx_ovr ← 1 and nothing else: a sample dropped (20_memory.md R67). -/
def setRxOvr (s : State) : State := s.withFlags { s.flags with rxOvr := true }

/-- STATUS.tx_udr ← 1 and nothing else: a pop while idle (20_memory.md R69). -/
def setTxUdr (s : State) : State := s.withFlags { s.flags with txUdr := true }

/-- A write of STATUS: bits 7:4 written as 1 are cleared, bits 3:0 are ignored (10_state.md R27). -/
def clearSticky (v : Nat) (s : State) : State :=
  s.withFlags
    { s.flags with
      illOp := s.flags.illOp && !v.testBit 4
      busyErr := s.flags.busyErr && !v.testBit 5
      rxOvr := s.flags.rxOvr && !v.testBit 6
      txUdr := s.flags.txUdr && !v.testBit 7 }

end Sys2Proof.Machine
end

