-- ==== Sys2Proof/Machine/Operands.lean ====
section
/-! DEFINITION. What the operations compute from registers and samples: the classifier, the checksum unit, the frame
word, the pulses of a train, and how a pulse is presented to the receive port. -/

namespace Sys2Proof.Machine

/-! ### The classifier -/

/-- The duration lies in the inclusive window; a window with min above max is empty (10_state.md R22). -/
def inWindow (lo hi : BitVec 16) (d : Nat) : Bool := decide (lo.toNat ≤ d) && decide (d ≤ hi.toNat)

/-- Classify: the first window that holds the duration, in the order SHORT, LONG, SYNC, GAP
(40_classifier.md R130). -/
def classify (c : CfgRegs) (d : Nat) : Category :=
  if inWindow c.shortMin c.shortMax d then .short
  else if inWindow c.longMin c.longMax d then .long
  else if inWindow c.syncMin c.syncMax d then .sync
  else if inWindow c.gapMin c.gapMax d then .gap
  else .unknown

/-! ### The checksum unit -/

/-- CK_MODE: false CONSTANT, true COMPUTED (10_state.md R24). -/
def CfgRegs.ckMode (c : CfgRegs) : Bool := c.ckCtrl.getLsbD 0

/-- CK_CONST (10_state.md R24). -/
def CfgRegs.ckConst (c : CfgRegs) : CheckByte := c.ckCtrl.extractLsb' 8 8

/-- CK_FN: open but for the one confirmed sample (43_checksum.md R183; log entry 3). -/
def ckFn (r : RemoteId) (h c : Nibble) : CheckByte :=
  if r = 0x98461A ∧ h = 4 ∧ c = 3 then 0x32 else Config.openChecksum r h c

/-- Checksum, the only source of checksums (43_checksum.md R181). -/
def checksum (g : CfgRegs) (r : RemoteId) (h c : Nibble) : CheckByte := if g.ckMode then ckFn r h c else g.ckConst

/-! ### Frames and trains -/

/-- FrameWord: the payload with the generated checksum (44_framecodec_encode.md R191). -/
def frameWord (g : CfgRegs) (r : RemoteId) (h c : Nibble) : FrameWord := frameOf r h c (checksum g r h c)

/-- PulseAt: the duration of pulse `k` of the train (44_framecodec_encode.md R193), whatever the windows make of it
(DESIGN CHOICE where 70_reset_and_hazards.md R257 says otherwise, log entry 12). -/
def pulseAt (g : CfgRegs) (w : FrameWord) (k : Nat) : Duration :=
  if k = 0 then g.tPreamble
  else if k = 1 then g.tSync
  else if k = 82 then g.tGap
  else if frameBit w ((k - 2) / 2) = decide ((k - 2) % 2 = 1) then g.tShort
  else g.tLong

/-- Train: the 83 durations in order (44_framecodec_encode.md R192). -/
def train (g : CfgRegs) (w : FrameWord) : List Duration := (List.range 83).map (pulseAt g w)

/-- The port word of pulse `k`: `last` is 1 on pulse 82 alone (30_encoding.md R103, 44_framecodec_encode.md R196). -/
def trainPortWord (g : CfgRegs) (w : FrameWord) (k : Nat) : PortWord :=
  BitVec.ofBool (decide (k = 82)) ++ pulseAt g w k

/-! ### Samples of the wire encodings -/

/-- A category code as the value of a sample, bits 2:0 (30_encoding.md R103). -/
def codeSample (c : Category) : Duration := c.code.setWidth 16

/-- A bit as the value of a sample, bit 0 (30_encoding.md R103). -/
def bitSample (b : Bool) : Duration := (BitVec.ofBool b).setWidth 16

/-- The profile's duration for a category (30_encoding.md R101); for UNKNOWN the preamble's (log entry 5). -/
def profileDuration (g : CfgRegs) : Category → Duration
  | .short => g.tShort
  | .long => g.tLong
  | .sync => g.tSync
  | .gap => g.tGap
  | .unknown => g.tPreamble

/-- The sample of a pulse in the form the armed operation takes: a duration of the profile under RXBURST, a category
code otherwise (42_framecodec_decode.md R167, 41_bitdecoder.md R140; log entry 5). -/
def pulseSample (g : CfgRegs) (m : RxMode) (c : Category) : Duration :=
  match m with
  | .dur => profileDuration g c
  | .cat => codeSample c
  | .bit => codeSample c

/-- The sample of a preamble pulse, whose profile duration is T_PREAMBLE whatever category it decodes as
(30_encoding.md R101). -/
def preambleSample (g : CfgRegs) (m : RxMode) (c : Category) : Duration :=
  match m with
  | .dur => g.tPreamble
  | .cat => codeSample c
  | .bit => codeSample c

/-- The two categories of each frame bit, in order (30_encoding.md R95). -/
def dataCategories (w : FrameWord) : List Category :=
  (frameBits w).flatMap fun b => [(bitPair b).1, (bitPair b).2]

/-- The 83 samples of a train in the form the armed operation takes: `train` under RXBURST, category codes
otherwise (30_encoding.md R101; log entry 5). -/
def trainSamples (g : CfgRegs) (m : RxMode) (p : Category) (w : FrameWord) : List Duration :=
  match m with
  | .dur => train g w
  | .cat => (p :: Category.sync :: dataCategories w ++ [Category.gap]).map codeSample
  | .bit => (p :: Category.sync :: dataCategories w ++ [Category.gap]).map codeSample

end Sys2Proof.Machine
end

