-- ==== Sys2Proof/Machine/Ops.lean ====
section
/-! DEFINITION. The shared operations: register access, raising an error, arming and stepping the RX engine, finishing
a burst, and the TX engine. There is no memory (20_memory.md R60). -/

namespace Sys2Proof.Machine

/-! ### Register access -/

/-- The value a register reads as. CMD, RX_DATA and an idle TX_DATA read 0 (10_state.md R21, 20_memory.md R65);
a read of TX_DATA is `popRead`. -/
def readReg (r : Reg) (s : State) : RegValue :=
  match r with
  | .shortMin => s.cfg.shortMin.setWidth 40
  | .shortMax => s.cfg.shortMax.setWidth 40
  | .longMin => s.cfg.longMin.setWidth 40
  | .longMax => s.cfg.longMax.setWidth 40
  | .syncMin => s.cfg.syncMin.setWidth 40
  | .syncMax => s.cfg.syncMax.setWidth 40
  | .gapMin => s.cfg.gapMin.setWidth 40
  | .gapMax => s.cfg.gapMax.setWidth 40
  | .tPreamble => s.cfg.tPreamble.setWidth 40
  | .tSync => s.cfg.tSync.setWidth 40
  | .tShort => s.cfg.tShort.setWidth 40
  | .tLong => s.cfg.tLong.setWidth 40
  | .tGap => s.cfg.tGap.setWidth 40
  | .ckCtrl => s.cfg.ckCtrl.setWidth 40
  | .opDur => s.opr.opDur.setWidth 40
  | .fRemote => s.opr.fRemote.setWidth 40
  | .fChannel => s.opr.fChannel.setWidth 40
  | .fCommand => s.opr.fCommand.setWidth 40
  | .fChecksum => s.opr.fChecksum.setWidth 40
  | .cmd => 0
  | .status => s.statusWord.setWidth 40
  | .resCat => s.resCat.setWidth 40
  | .resCk => s.resCk.setWidth 40
  | .rxStatus => s.rxRes.statusWord.setWidth 40
  | .rxRemote => s.rxRes.remote.setWidth 40
  | .rxChannel => s.rxRes.channel.setWidth 40
  | .rxCommand => s.rxRes.command.setWidth 40
  | .rxChecksum => s.rxRes.checksum.setWidth 40
  | .rxExpected => s.rxRes.expected.setWidth 40
  | .rxBits => s.rxRes.bits
  | .rxData => 0
  | .txData => 0

/-- The configuration registers after an accepted write of one of them: truncated to 16 bits, bits 7:1 of CK_CTRL
forced to 0 (20_memory.md R64, 10_state.md R24). -/
def CfgRegs.write (g : CfgRegs) (r : Reg) (v : Nat) : CfgRegs :=
  match r with
  | .shortMin => { g with shortMin := BitVec.ofNat 16 v }
  | .shortMax => { g with shortMax := BitVec.ofNat 16 v }
  | .longMin => { g with longMin := BitVec.ofNat 16 v }
  | .longMax => { g with longMax := BitVec.ofNat 16 v }
  | .syncMin => { g with syncMin := BitVec.ofNat 16 v }
  | .syncMax => { g with syncMax := BitVec.ofNat 16 v }
  | .gapMin => { g with gapMin := BitVec.ofNat 16 v }
  | .gapMax => { g with gapMax := BitVec.ofNat 16 v }
  | .tPreamble => { g with tPreamble := BitVec.ofNat 16 v }
  | .tSync => { g with tSync := BitVec.ofNat 16 v }
  | .tShort => { g with tShort := BitVec.ofNat 16 v }
  | .tLong => { g with tLong := BitVec.ofNat 16 v }
  | .tGap => { g with tGap := BitVec.ofNat 16 v }
  | .ckCtrl => { g with ckCtrl := BitVec.ofNat 16 v &&& 0xFF01 }
  | _ => g

/-- The operand registers after a write of one of them, truncated to its width (20_memory.md R61, R65). -/
def OperandRegs.write (o : OperandRegs) (r : Reg) (v : Nat) : OperandRegs :=
  match r with
  | .opDur => { o with opDur := BitVec.ofNat 16 v }
  | .fRemote => { o with fRemote := BitVec.ofNat 24 v }
  | .fChannel => { o with fChannel := BitVec.ofNat 4 v }
  | .fCommand => { o with fCommand := BitVec.ofNat 4 v }
  | .fChecksum => { o with fChecksum := BitVec.ofNat 8 v }
  | _ => o

/-- A write of a configuration register: refused with busy_err while either engine is busy (20_memory.md R64). -/
def writeConfig (r : Reg) (v : Nat) (s : State) : State :=
  if s.rxBusy || s.txBusy then setBusyErr s else s.withCfg (s.cfg.write r v)

/-- A write of a register that is neither CMD nor RX_DATA: configuration, operand, STATUS; read-only registers
ignore it (20_memory.md R64, R65, 10_state.md R27). -/
def writeReg (r : Reg) (v : Nat) (s : State) : State :=
  if r.isConfig then writeConfig r v s
  else if r.isOperand then s.withOpr (s.opr.write r v)
  else if r = .status then clearSticky v s
  else s

/-- The host receives the value of a read (log entry 2). -/
def logRead (v : RegValue) (s : State) : State := s.withHost { s.host with returned := s.host.returned ++ [v] }

/-! ### Raising an error -/

/-- `raise E`: rx_err takes the code, rx_phase goes to FLUSH, and nothing else happens (60_exceptions.md R224). -/
def raiseErr (e : ErrCode) (s : State) : State := s.withRx { s.rx with err := e, phase := .flush }

/-- rx_err takes the code at the end of the burst, without a FLUSH phase (60_exceptions.md R224). -/
def recordErr (e : ErrCode) (s : State) : State := s.withRx { s.rx with err := e }

/-! ### Arming the RX engine -/

/-- The assignments of 45_control.md R212, rx_mode and rx_phase left as they are. -/
def clearRx (s : State) : State :=
  ((s.withRx { s.rx with half := false, first := 0, cnt := 0, sr := 0, err := .noError, gap := false }).withRxRes
    RxResults.zero).withFlags { s.flags with rxDone := false }

/-- The RX engine cleared and set to a mode and a phase (45_control.md R212). -/
def armRx (m : RxMode) (p : RxPhase) (s : State) : State :=
  (clearRx s).withRx { (clearRx s).rx with mode := m, phase := p }

/-- An RX command: refused while the RX engine is busy (45_control.md R211), else arms it. -/
def startRx (m : RxMode) (p : RxPhase) (s : State) : State := if s.rxBusy then setBusyErr s else armRx m p s

/-! ### The RX sequencer, one sample -/

/-- Phase HUNT (41_bitdecoder.md R144). -/
def stepHunt (c : Category) (s : State) : State :=
  if c = .sync then s.withRx { s.rx with phase := .data } else s

/-- Phase DATA, first pulse of a pair: held, not judged (41_bitdecoder.md R145). -/
def stepFirst (c : Category) (s : State) : State := s.withRx { s.rx with first := c.code, half := true }

/-- A good pair: its bit is shifted in; the 40th leads to TAIL (41_bitdecoder.md R147). -/
def collectBit (b : Bool) (s : State) : State :=
  s.withRx
    { s.rx with
      half := false
      sr := shiftIn s.rx.sr b
      cnt := s.rx.cnt + 1
      phase := if s.rx.cnt + 1 = 40 then .tail else s.rx.phase }

/-- Phase DATA, second pulse of a pair (41_bitdecoder.md R147). A train whose T_SHORT reads LONG and whose T_LONG reads
SHORT gives good pairs with every bit inverted: the model's choice, R147 before the prose of 70_reset_and_hazards.md
R257 (DESIGN CHOICE, log entry 12). -/
def stepSecond (c : Category) (s : State) : State :=
  match pairBit (catDecode s.rx.first) c with
  | some b => collectBit b s
  | none => raiseErr .malformedPulsePair (s.withRx { s.rx with half := false })

/-- Phase DATA: a GAP ends the data too early (41_bitdecoder.md R146), another pulse is paired (R145, R147). -/
def stepData (c : Category) (s : State) : State :=
  if c = .gap then raiseErr .unexpectedLength s else if s.rx.half then stepSecond c s else stepFirst c s

/-- Phase TAIL: the terminal GAP settles success, an 81st data pulse is an error (41_bitdecoder.md R148). -/
def stepTail (c : Category) (s : State) : State :=
  if c = .gap then s.withRx { s.rx with gap := true, phase := .flush } else raiseErr .unexpectedLength s

/-- The step of a category (41_bitdecoder.md R144 to R149). Phase BITS takes no category (log entry 9). -/
def stepCategory (c : Category) (s : State) : State :=
  match s.rx.phase with
  | .idle => s
  | .hunt => stepHunt c s
  | .data => stepData c s
  | .tail => stepTail c s
  | .flush => s
  | .bits => s

/-- Phase BITS: 40 bits are shifted in, the count saturates at 41 (42_framecodec_decode.md R163). -/
def stepBits (b : Bool) (s : State) : State :=
  s.withRx
    { s.rx with
      sr := if s.rx.cnt.toNat < 40 then shiftIn s.rx.sr b else s.rx.sr
      cnt := if s.rx.cnt.toNat < 41 then s.rx.cnt + 1 else s.rx.cnt }

/-- The step of a bit. The phases of the bit decoder take no bit (log entry 9). -/
def stepBit (b : Bool) (s : State) : State :=
  match s.rx.phase with
  | .bits => stepBits b s
  | .idle => s
  | .hunt => s
  | .data => s
  | .tail => s
  | .flush => s

/-- A sample is read in the mode of the armed command and the engine takes its step (20_memory.md R66). -/
def stepSample (v : Duration) (s : State) : State :=
  match s.rx.mode with
  | .dur => stepCategory (classify s.cfg v.toNat) s
  | .cat => stepCategory (catDecode (v.setWidth 3)) s
  | .bit => stepBit (v.getLsbD 0) s

/-! ### The end of a burst -/

/-- The end-of-burst checks (41_bitdecoder.md R150, 42_framecodec_decode.md R164). -/
def endCheck (s : State) : State :=
  match s.rx.phase with
  | .hunt => if s.rx.err = .noError then recordErr .unexpectedLength s else s
  | .data => if s.rx.err = .noError then recordErr .unexpectedLength s else s
  | .bits => if s.rx.cnt ≠ 40 then recordErr .lengthMismatch s else s
  | .tail => s
  | .flush => s
  | .idle => s

/-- The RX result registers a good burst leaves (42_framecodec_decode.md R165). -/
def goodResults (s : State) : RxResults :=
  let w := s.rx.sr
  let x := checksum s.cfg (wordRemote w) (wordChannel w) (wordCommand w)
  { ok := true, err := .noError, ckValid := decide (wordCheck w = x), gapSeen := s.rx.gap
    remote := wordRemote w, channel := wordChannel w, command := wordCommand w, checksum := wordCheck w
    expected := x, bits := w }

/-- The RX result registers a bad burst leaves: RX_STATUS alone is written (42_framecodec_decode.md R165). -/
def badResults (s : State) : RxResults :=
  { s.rxRes with ok := false, err := s.rx.err, ckValid := false, gapSeen := false }

/-- Finalisation: results, IDLE, rx_done (42_framecodec_decode.md R165). -/
def finishBurst (s : State) : State :=
  ((s.withRxRes (if s.rx.err = .noError then goodResults s else badResults s)).withRx
    { s.rx with phase := .idle }).withFlags { s.flags with rxDone := true }

/-- RxPush(s, last) (20_memory.md R66, R67). -/
def rxPush (v : Duration) (last : Bool) (s : State) : State :=
  if s.rxBusy then
    if last then finishBurst (endCheck (stepSample v s)) else stepSample v s
  else setRxOvr s

/-- The samples pushed in order with `last` on the final one: one burst (20_memory.md R66). -/
def pushBurst : List Duration → State → State
  | [], s => s
  | [v], s => rxPush v true s
  | v :: w :: vs, s => pushBurst (w :: vs) (rxPush v false s)

/-! ### The TX engine -/

/-- FENC: refused while the TX engine is busy (45_control.md R211), else the word is latched and the train starts
(44_framecodec_encode.md R190). -/
def startTx (s : State) : State :=
  if s.txBusy then setBusyErr s
  else
    (s.withTx { word := frameWord s.cfg s.opr.fRemote s.opr.fChannel s.opr.fCommand, idx := 0 }).withFlags
      { s.flags with txBusy := true, txDone := false }

/-- The word TxPop returns (44_framecodec_encode.md R196, 20_memory.md R69). -/
def popWord (s : State) : PortWord :=
  if s.txBusy then trainPortWord s.cfg s.tx.word s.tx.idx.toNat else 0

/-- The state TxPop leaves: the next index, or after pulse 82 the idle engine (44_framecodec_encode.md R196); tx_udr
when idle (20_memory.md R69). -/
def popState (s : State) : State :=
  if s.txBusy then
    if s.tx.idx.toNat < 82 then s.withTx { s.tx with idx := s.tx.idx + 1 }
    else (s.withTx { s.tx with idx := 0 }).withFlags { s.flags with txBusy := false, txDone := true }
  else setTxUdr s

/-- A read of TX_DATA: the host receives the word and the engine advances (20_memory.md R68). -/
def popRead (s : State) : State := logRead ((popWord s).setWidth 40) (popState s)

/-- `n` reads of TX_DATA in a row. -/
def popReads : Nat → State → State
  | 0, s => s
  | n + 1, s => popReads n (popRead s)

/-- A read of any register: TX_DATA pops, every other read changes nothing of the block (20_memory.md R62, R68). -/
def readRegister (r : Reg) (s : State) : State := if r = .txData then popRead s else logRead (readReg r s) s

/-! ### Reset -/

/-- Reset: every element of the block takes its reset value; what the host has lined up and received stays
(70_reset_and_hazards.md R250; log entry 11). -/
def resetBlock (s : State) : State := State.reset.withHost s.host

/-- SRESET: all but configuration and operand registers (45_control.md R214). -/
def softReset (s : State) : State :=
  let t := armRx .dur .idle s
  let u := t.withTx { word := 0, idx := 0 }
  let x := u.withFlags
    { txBusy := false, rxDone := false, txDone := false
      illOp := false, busyErr := false, rxOvr := false, txUdr := false }
  (x.withResCat 0).withResCk 0

end Sys2Proof.Machine
end

