-- ==== Sys2Proof/Machine/Command.lean ====
section
/-! DEFINITION. The meanings of the OP rows: what a write of CMD with each op code does (45_control.md R210). -/

namespace Sys2Proof.Machine

/-- RESERVED0: sets STATUS.ill_op, nothing else (45_control.md R215). -/
def execReserved0 (s : State) : Host.Outcome State Fault Refusal := .next (setIllOp s)

/-- CLASSIFY: RES_CAT takes the code of the category of OP_DUR; accepted always (40_classifier.md R131). -/
def execClassify (s : State) : Host.Outcome State Fault Refusal :=
  .next (s.withResCat (classify s.cfg s.opr.opDur.toNat).code)

/-- RXBURST: arms the RX engine for durations, or is refused (42_framecodec_decode.md R167). -/
def execRxburst (s : State) : Host.Outcome State Fault Refusal := .next (startRx .dur .hunt s)

/-- BITDEC: arms the RX engine for category codes, or is refused (41_bitdecoder.md R140). -/
def execBitdec (s : State) : Host.Outcome State Fault Refusal := .next (startRx .cat .hunt s)

/-- FDEC: arms the RX engine for bits, or is refused (42_framecodec_decode.md R160). -/
def execFdec (s : State) : Host.Outcome State Fault Refusal := .next (startRx .bit .bits s)

/-- CKSUM: RES_CK takes the checksum of the operand frame's payload; accepted always (43_checksum.md R184). -/
def execCksum (s : State) : Host.Outcome State Fault Refusal :=
  .next (s.withResCk (checksum s.cfg s.opr.fRemote s.opr.fChannel s.opr.fCommand))

/-- FENC: latches the frame word and starts the train, or is refused (44_framecodec_encode.md R190). -/
def execFenc (s : State) : Host.Outcome State Fault Refusal := .next (startTx s)

/-- SRESET: engines idle, results and flags cleared, configuration and operands kept (45_control.md R214). -/
def execSreset (s : State) : Host.Outcome State Fault Refusal := .next (softReset s)

end Sys2Proof.Machine
end

