-- ==== Sys2Proof/Machine/Errors.lean ====
section
/-! DEFINITION. The meanings of the ERRCODE rows: the RX engine meets the error, in the phases in which the spec lets
it arise, and takes it as 60_exceptions.md R224 says; in every other phase the code changes nothing, since no rule
raises the error there (log entry 6). -/

namespace Sys2Proof.Machine

/-- ERR_NONE: no error, nothing changes (30_encoding.md R108). -/
def execErrNone (s : State) : Host.Outcome State Fault Refusal := .next s

/-- ERR_MalformedPulsePair: raised in phase DATA alone (41_bitdecoder.md R147, 60_exceptions.md R221). -/
def execErrMalformedPulsePair (s : State) : Host.Outcome State Fault Refusal :=
  match s.rx.phase with
  | .data => .next (raiseErr .malformedPulsePair s)
  | .idle | .hunt | .tail | .flush | .bits => .next s

/-- ERR_UnexpectedLength: raised in DATA and TAIL (41_bitdecoder.md R146, R148); in HUNT only the end of the burst
finds it, which R224 takes straight to the results (R150, 42_framecodec_decode.md R165). -/
def execErrUnexpectedLength (s : State) : Host.Outcome State Fault Refusal :=
  match s.rx.phase with
  | .data | .tail => .next (raiseErr .unexpectedLength s)
  | .hunt => .next (finishBurst (recordErr .unexpectedLength s))
  | .idle | .flush | .bits => .next s

/-- ERR_LengthMismatch: found at the end of an FDEC burst and taken straight to the results
(42_framecodec_decode.md R164, R165, 60_exceptions.md R224). -/
def execErrLengthMismatch (s : State) : Host.Outcome State Fault Refusal :=
  match s.rx.phase with
  | .bits => .next (finishBurst (recordErr .lengthMismatch s))
  | .idle | .hunt | .data | .tail | .flush => .next s

end Sys2Proof.Machine
end

