-- ==== Sys2Proof/Machine/Pseudo.lean ====
section
/-! DEFINITION. The meanings of the PSEUDO rows: the whole of their expansions into host events
(30_encoding.md R106, 44_framecodec_encode.md R194; log entry 7). -/

namespace Sys2Proof.Machine

/-- The three operand writes both expansions begin with (45_control.md R216). -/
def writePayload (r : RemoteId) (h c : Nibble) (s : State) : State :=
  writeReg .fCommand c.toNat (writeReg .fChannel h.toNat (writeReg .fRemote r.toNat s))

/-- What the host's software makes of a VALIDATE: whether RES_CK, just read, is the checksum asked about
(30_encoding.md R106). -/
def noteVerdict (k : CheckByte) (s : State) : State :=
  s.withHost { s.host with verdict := some (decide (s.resCk = k)) }

/-- TXFRAME: the operand writes, FENC, and 83 reads of TX_DATA (44_framecodec_encode.md R194). -/
def execTxframe (r : RemoteId) (h c : Nibble) (s : State) : Host.Outcome State Fault Refusal :=
  .next (popReads 83 (startTx (writePayload r h c s)))

/-- VALIDATE: the operand writes, CKSUM, a read of RES_CK and the comparison in software (30_encoding.md R106). -/
def execValidate (r : RemoteId) (h c : Nibble) (k : CheckByte) (s : State) : Host.Outcome State Fault Refusal :=
  let t := writePayload r h c s
  let u := t.withResCk (checksum t.cfg t.opr.fRemote t.opr.fChannel t.opr.fCommand)
  .next (noteVerdict k (readRegister .resCk u))

end Sys2Proof.Machine
end

