-- ==== Sys2Proof/Machine/Wire.lean ====
section
/-! DEFINITION. The meanings of the wire rows (PORT17, CATCODE, SYMBOL, FRAME40, TRAIN): what the block does when
their samples are pushed through RX_DATA, whatever state the RX engine is in (20_memory.md R66, R67; log entries 4
and 5). Only a port word, a frame and a train carry a `last` flag. -/

namespace Sys2Proof.Machine

/-- A pulse pushed in the form the armed operation takes, not the last of its burst (log entry 5). -/
def pushPulse (c : Category) (s : State) : State := rxPush (pulseSample s.cfg s.rx.mode c) false s

/-- PORTWORD: RxPush of the value with its `last` flag (30_encoding.md R103, 20_memory.md R66). -/
def execPortword (last : Bool) (v : Duration) (s : State) : Host.Outcome State Fault Refusal :=
  .next (rxPush v last s)

/-- CAT_UNKNOWN: the sample with category code 0 (30_encoding.md R92, R103). -/
def execCatUnknown (s : State) : Host.Outcome State Fault Refusal := .next (rxPush (codeSample .unknown) false s)

/-- CAT_SHORT: the sample with category code 1 (30_encoding.md R92, R103). -/
def execCatShort (s : State) : Host.Outcome State Fault Refusal := .next (rxPush (codeSample .short) false s)

/-- CAT_LONG: the sample with category code 2 (30_encoding.md R92, R103). -/
def execCatLong (s : State) : Host.Outcome State Fault Refusal := .next (rxPush (codeSample .long) false s)

/-- CAT_SYNC: the sample with category code 3 (30_encoding.md R92, R103). -/
def execCatSync (s : State) : Host.Outcome State Fault Refusal := .next (rxPush (codeSample .sync) false s)

/-- CAT_GAP: the sample with category code 4 (30_encoding.md R92, R103). -/
def execCatGap (s : State) : Host.Outcome State Fault Refusal := .next (rxPush (codeSample .gap) false s)

/-- BIT0: the pulses SHORT, LONG (30_encoding.md R94, R95). -/
def execBit0 (s : State) : Host.Outcome State Fault Refusal := .next (pushPulse .long (pushPulse .short s))

/-- BIT1: the pulses LONG, SHORT (30_encoding.md R94, R95). -/
def execBit1 (s : State) : Host.Outcome State Fault Refusal := .next (pushPulse .short (pushPulse .long s))

/-- BADPAIR: two pulses of the given categories (30_encoding.md R94). -/
def execBadpair (a b : Category) (s : State) : Host.Outcome State Fault Refusal :=
  .next (pushPulse b (pushPulse a s))

/-- PREAMBLE: a pulse that decodes as the given category, T_PREAMBLE long under RXBURST (30_encoding.md R101). -/
def execPreamble (c : Category) (s : State) : Host.Outcome State Fault Refusal :=
  .next (rxPush (preambleSample s.cfg s.rx.mode c) false s)

/-- SYNC: a SYNC pulse, T_SYNC long under RXBURST (30_encoding.md R101). -/
def execSync (s : State) : Host.Outcome State Fault Refusal := .next (pushPulse .sync s)

/-- ENDGAP: a GAP pulse, T_GAP long under RXBURST (30_encoding.md R101). -/
def execEndgap (s : State) : Host.Outcome State Fault Refusal := .next (pushPulse .gap s)

/-- FRAME40: the forty bits of the frame word as one burst, first bit on air first (30_encoding.md R96, R98,
45_control.md R216). -/
def execFrame40 (r : RemoteId) (h c : Nibble) (k : CheckByte) (s : State) : Host.Outcome State Fault Refusal :=
  .next (pushBurst ((frameBits (frameOf r h c k)).map bitSample) s)

/-- TRAIN: the 83 pulses of the word as one burst (30_encoding.md R101, 44_framecodec_encode.md R192). -/
def execTrain (p : Category) (w : FrameWord) (s : State) : Host.Outcome State Fault Refusal :=
  .next (pushBurst (trainSamples s.cfg s.rx.mode p w) s)

end Sys2Proof.Machine
end

