-- ==== Sys2Proof/Machine/Dispatch.lean ====
section
/-! DEFINITION. One arm per row of the opcode table. -/

namespace Sys2Proof.Machine

/-- The meaning of each instruction. -/
def exec (i : Instr) (s : State) : Host.Outcome State Fault Refusal :=
  match i with
  | .reserved0 => Sys2Proof.Machine.execReserved0 s
  | .classify => Sys2Proof.Machine.execClassify s
  | .rxburst => Sys2Proof.Machine.execRxburst s
  | .bitdec => Sys2Proof.Machine.execBitdec s
  | .fdec => Sys2Proof.Machine.execFdec s
  | .cksum => Sys2Proof.Machine.execCksum s
  | .fenc => Sys2Proof.Machine.execFenc s
  | .sreset => Sys2Proof.Machine.execSreset s
  | .txframe r h c => Sys2Proof.Machine.execTxframe r h c s
  | .validate r h c k => Sys2Proof.Machine.execValidate r h c k s
  | .frame40 r h c k => Sys2Proof.Machine.execFrame40 r h c k s
  | .bit0 => Sys2Proof.Machine.execBit0 s
  | .bit1 => Sys2Proof.Machine.execBit1 s
  | .badpair a b => Sys2Proof.Machine.execBadpair a b s
  | .preamble c => Sys2Proof.Machine.execPreamble c s
  | .sync => Sys2Proof.Machine.execSync s
  | .endgap => Sys2Proof.Machine.execEndgap s
  | .train p w => Sys2Proof.Machine.execTrain p w s
  | .portword last v => Sys2Proof.Machine.execPortword last v s
  | .catUnknown => Sys2Proof.Machine.execCatUnknown s
  | .catShort => Sys2Proof.Machine.execCatShort s
  | .catLong => Sys2Proof.Machine.execCatLong s
  | .catSync => Sys2Proof.Machine.execCatSync s
  | .catGap => Sys2Proof.Machine.execCatGap s
  | .errNone => Sys2Proof.Machine.execErrNone s
  | .errMalformedPulsePair => Sys2Proof.Machine.execErrMalformedPulsePair s
  | .errUnexpectedLength => Sys2Proof.Machine.execErrUnexpectedLength s
  | .errLengthMismatch => Sys2Proof.Machine.execErrLengthMismatch s

end Sys2Proof.Machine
end

