-- ==== Sys2Proof/Machine/Bus.lean ====
section
/-! DEFINITION. The host's events: a register write, a register read, reset, and the words of a table row presented in
their format (00_scope.md R7, 20_memory.md R60 to R69, 70_reset_and_hazards.md R250). -/

namespace Sys2Proof.Machine

/-- Pulses pushed one after the other, none the last of its burst. -/
def pushPulses : List Category → State → State
  | [], s => s
  | c :: cs, s => pushPulses cs (pushPulse c s)

/-- Words that fit no row of their format (log entry 10). In the formats of pulses they are pulses all the same, which
the RX engine meets as it meets any other (41_bitdecoder.md R144 to R150); a train that is none is their burst. In the
other formats only the number of words, or the op code of a pseudo-operation, can be wrong, and nothing reaches the
block. -/
def pushUnfit (f : Format) (ws : List Nat) (s : State) : State :=
  match f with
  | .train => pushBurst (ws.map fun w => pulseSample s.cfg s.rx.mode (catOfWord w)) s
  | .symbol _ => pushPulses (ws.map catOfWord) s
  | .op | .pseudo | .frame40 | .port17 | .catcode | .errcode => s

/-- Words read by the decoder and run (60_exceptions.md R231: no words are refused). -/
def runWords (f : Format) (ws : List Nat) (s : State) : Host.Outcome State Fault Refusal :=
  match decode f ws with
  | .ok i => exec i s
  | .error _ => .next (pushUnfit f ws s)

/-- RegWrite(n, v): CMD takes the value as a command word, RX_DATA as a port word, every other register stores it or
ignores it (10_state.md R21, R26, R31, 20_memory.md R63 to R66). -/
def hostWrite (n v : Nat) (s : State) : Host.Outcome State Fault Refusal :=
  match regOfNum n with
  | some .cmd => runWords .op [v] s
  | some .rxData => runWords .port17 [v] s
  | some r => .next (writeReg r v s)
  | none => .next s

/-- RegRead(n); an unmapped number reads 0 (20_memory.md R61 to R63, R68). -/
def hostRead (n : Nat) (s : State) : State :=
  match regOfNum n with
  | some r => readRegister r s
  | none => logRead 0 s

/-- One host event, processed completely (00_scope.md R7). -/
def performEvent (e : HostEvent) (s : State) : Host.Outcome State Fault Refusal :=
  match e with
  | .regWrite n v => hostWrite n v s
  | .regRead n => .next (hostRead n s)
  | .reset => .next (resetBlock s)
  | .present f ws => runWords f ws s

/-- The event taken off the front of the host's list. -/
def dropEvent (s : State) : State := s.withHost { s.host with pending := s.host.pending.tail }

/-- The event put at the front of the host's list. -/
def pushEvent (e : HostEvent) (s : State) : State := s.withHost { s.host with pending := e :: s.host.pending }

/-- The host event that carries one word of the opcode table: 8 bits are written to CMD, 24 bits to RX_DATA, 40 bits
presented as a frame word (log entry 8). -/
def tableEvent (nbits w : Nat) : HostEvent :=
  if nbits = 8 then .regWrite 0x18 w
  else if nbits = 24 then .regWrite 0x30 w
  else if nbits = 40 then .present .frame40 [w]
  else .present .op []

end Sys2Proof.Machine
end

