-- ==== Sys2Proof/Machine/Step.lean ====
section
/-! DEFINITION. One step: the next host event, processed completely and atomically (00_scope.md R7, 20_memory.md R74).
With no event pending the block does not change: it takes no step of its own (log entry 1). -/

namespace Sys2Proof.Machine

/-- The step of the machine. -/
def step (s : State) : Host.Outcome State Fault Refusal :=
  match s.host.pending with
  | [] => .next s
  | e :: _ => performEvent e (dropEvent s)

/-- The state with an opcode-table word as the host's next event (log entries 1 and 8). -/
def State.withFetchWord (s : State) (nbits w : Nat) : State := pushEvent (tableEvent nbits w) s

end Sys2Proof.Machine
end

