-- ==== Sys2Proof/Machine/Codec.lean ====
section
/-! DEFINITION. The list-level functions of the spec: BitDecode (41_bitdecoder.md R141), FrameParse and RxDecode
(42_framecodec_decode.md R161, R166). The engines take one sample an event; these say what a whole burst means. -/

namespace Sys2Proof.Machine

/-- The elements after the first SYNC; `none` when there is no SYNC (41_bitdecoder.md R141). -/
def afterSync : List Category → Option (List Category)
  | [] => none
  | c :: cs => if c = .sync then some cs else afterSync cs

/-- The elements before the first GAP, and whether there is a GAP (41_bitdecoder.md R141). -/
def beforeGap : List Category → List Category × Bool
  | [] => ([], false)
  | c :: cs => if c = .gap then ([], true) else (c :: (beforeGap cs).1, (beforeGap cs).2)

/-- The bits of the first `n` pairs and the pulses left over, or the first defect met (41_bitdecoder.md R141). -/
def readPairs : Nat → List Category → Except ErrCode (List Bool × List Category)
  | 0, rest => .ok ([], rest)
  | n + 1, a :: b :: rest =>
    match pairBit a b with
    | none => .error .malformedPulsePair
    | some x =>
      match readPairs n rest with
      | .ok (xs, left) => .ok (x :: xs, left)
      | .error e => .error e
  | _ + 1, _ => .error .unexpectedLength

/-- BitDecode: 40 bits and whether a GAP ended them, or an error (41_bitdecoder.md R141). -/
def bitDecode (cats : List Category) : Except ErrCode (List Bool × Bool) :=
  match afterSync cats with
  | none => .error .unexpectedLength
  | some data =>
    match readPairs 40 (beforeGap data).1 with
    | .error e => .error e
    | .ok (xs, left) => if left = [] then .ok (xs, (beforeGap data).2) else .error .unexpectedLength

/-- A parsed frame with the expected checksum and the verdict (42_framecodec_decode.md R161). -/
structure Parsed where
  remote : RemoteId
  channel : Nibble
  command : Nibble
  check : CheckByte
  expected : CheckByte
  valid : Bool
deriving DecidableEq, Repr

/-- FrameParse: fails on length alone (42_framecodec_decode.md R161; 30_encoding.md R112). -/
def frameParse (g : CfgRegs) (xs : List Bool) : Except ErrCode Parsed :=
  if xs.length ≠ 40 then .error .lengthMismatch
  else
    let w := wordOfBits xs
    let x := checksum g (wordRemote w) (wordChannel w) (wordCommand w)
    .ok
      { remote := wordRemote w, channel := wordChannel w, command := wordCommand w, check := wordCheck w
        expected := x, valid := decide (wordCheck w = x) }

/-- The frame parser behind the bit decoder: the second half of RxDecode (42_framecodec_decode.md R166). -/
def parseDecoded (g : CfgRegs) : Except ErrCode (List Bool × Bool) → Except ErrCode (Parsed × Bool)
  | .error e => .error e
  | .ok (xs, gap) =>
    match frameParse g xs with
    | .error e => .error e
    | .ok f => .ok (f, gap)

/-- RxDecode: classify, decode, parse (42_framecodec_decode.md R166). -/
def rxDecode (g : CfgRegs) (durs : List Duration) : Except ErrCode (Parsed × Bool) :=
  parseDecoded g (bitDecode (durs.map fun d => classify g d.toNat))

/-- The RX result registers an outcome leaves (42_framecodec_decode.md R168). -/
def resultsOf : Except ErrCode (Parsed × Bool) → RxResults
  | .error e => { RxResults.zero with err := e }
  | .ok (f, gap) =>
    { ok := true, err := .noError, ckValid := f.valid, gapSeen := gap
      remote := f.remote, channel := f.channel, command := f.command, checksum := f.check
      expected := f.expected, bits := frameOf f.remote f.channel f.command f.check }

end Sys2Proof.Machine
end

