-- ==== Sys2Proof/Safety.lean ====
section
/-! DEFINITION. The terms the claims use: the invariants of 10_state.md R43 and what supports them, the condition of
the round trip, runs of instructions, and the bursts and expansions the host issues. -/

namespace Sys2Proof.Machine

/-! ### The invariants of 10_state.md R43, items 1 to 10 -/

/-- Item 1: rx_done implies IDLE. -/
abbrev DoneOnlyWhenIdle (s : State) : Prop := s.flags.rxDone = true → s.rx.phase = .idle

/-- Item 2: ok implies no error code and rx_done. -/
abbrev OkMeansDone (s : State) : Prop := s.rxRes.ok = true → s.rxRes.err = .noError ∧ s.flags.rxDone = true

/-- Item 3: a finished burst that is not ok names its error. -/
abbrev DoneNamesError (s : State) : Prop :=
  s.flags.rxDone = true ∧ s.rxRes.ok = false → s.rxRes.err ≠ .noError

/-- Item 4: ck_valid and gap_seen imply ok. -/
abbrev VerdictsNeedOk (s : State) : Prop :=
  (s.rxRes.ckValid = true → s.rxRes.ok = true) ∧ (s.rxRes.gapSeen = true → s.rxRes.ok = true)

/-- Item 5: RX_BITS is the four fields side by side. -/
abbrev BitsAreTheFields (s : State) : Prop :=
  s.rxRes.bits = frameOf s.rxRes.remote s.rxRes.channel s.rxRes.command s.rxRes.checksum

/-- Item 6: ok implies that ck_valid is the comparison of the two checksums. -/
abbrev ValidIsTheComparison (s : State) : Prop :=
  s.rxRes.ok = true → s.rxRes.ckValid = decide (s.rxRes.checksum = s.rxRes.expected)

/-- Item 7: without ok every frame register is zero. -/
abbrev NoFrameWithoutOk (s : State) : Prop :=
  s.rxRes.ok = false → s.rxRes = { RxResults.zero with err := s.rxRes.err }

/-- Item 8: an idle TX engine stands at index 0, and the index is at most 82. -/
abbrev TrainIndexInRange (s : State) : Prop :=
  (s.flags.txBusy = false → s.tx.idx = 0) ∧ s.tx.idx.toNat ≤ 82

/-- Item 9: tx_busy excludes tx_done. -/
abbrev BusyIsNotDone (s : State) : Prop := s.flags.txBusy = true → s.flags.txDone = false

/-- Item 10: no error is pending while the bit decoder collects, and the counts fit the phases. -/
abbrev CountsFitPhases (s : State) : Prop :=
  (s.rx.phase = .hunt ∨ s.rx.phase = .data → s.rx.err = .noError) ∧
    (s.rx.phase = .tail → s.rx.cnt = 40 ∧ s.rx.err = .noError) ∧
    (s.rx.phase = .data → s.rx.cnt.toNat < 40)

/-- What the items above need to be kept, all of it said by other rules: CK_CTRL bits 7:1 read 0 (10_state.md R24);
no error code before the burst ends (42_framecodec_decode.md R168); HUNT starts from cleared counts
(41_bitdecoder.md R144); FDEC collects without error in mode BIT (42_framecodec_decode.md R160, R163); in FLUSH the
outcome is settled (10_state.md R33); the count is at most 41 (R36); stored category codes are no reserved ones
(30_encoding.md R92). -/
abbrev SupportHolds (s : State) : Prop :=
  s.cfg.ckCtrl &&& 0x00FE = 0 ∧
    (s.flags.rxDone = false → s.rxRes.err = .noError) ∧
    (s.rx.phase = .hunt → s.rx.cnt = 0 ∧ s.rx.half = false) ∧
    (s.rx.phase = .bits → s.rx.mode = .bit ∧ s.rx.err = .noError) ∧
    (s.rx.phase = .hunt ∨ s.rx.phase = .data ∨ s.rx.phase = .tail ∨ s.rx.phase = .flush → s.rx.mode ≠ .bit) ∧
    (s.rx.phase = .flush → s.rx.err ≠ .noError ∨ (s.rx.cnt = 40 ∧ s.rx.gap = true)) ∧
    s.rx.cnt.toNat ≤ 41 ∧ s.rx.first.toNat ≤ 4 ∧ s.resCat.toNat ≤ 4

/-- The invariant of the block: items 1 to 10 of 10_state.md R43 and their support. -/
abbrev BlockInv (s : State) : Prop :=
  DoneOnlyWhenIdle s ∧ OkMeansDone s ∧ DoneNamesError s ∧ VerdictsNeedOk s ∧ BitsAreTheFields s ∧
    ValidIsTheComparison s ∧ NoFrameWithoutOk s ∧ TrainIndexInRange s ∧ BusyIsNotDone s ∧ CountsFitPhases s ∧
    SupportHolds s

/-! ### Conditions and runs -/

/-- The timing profile decodes under the block's own windows (44_framecodec_encode.md R200). -/
abbrev LoopCompatible (g : CfgRegs) : Prop :=
  classify g g.tShort.toNat = .short ∧ classify g g.tLong.toNat = .long ∧ classify g g.tSync.toNat = .sync ∧
    classify g g.tGap.toNat = .gap ∧ classify g g.tPreamble.toNat ≠ .sync

/-- T_SHORT and T_LONG read as each other's category and the rest of the profile decodes: the one profile that is not
loop-compatible whose trains decode all the same (log entry 12). -/
abbrev SwappedProfile (g : CfgRegs) : Prop :=
  classify g g.tShort.toNat = .long ∧ classify g g.tLong.toNat = .short ∧ classify g g.tSync.toNat = .sync ∧
    classify g g.tGap.toNat = .gap ∧ classify g g.tPreamble.toNat ≠ .sync

/-- The sample has the category, in the mode of the armed command (20_memory.md R66). -/
abbrev SampleHasCategory (s : State) (v : Duration) (c : Category) : Prop :=
  (s.rx.mode = .cat ∧ catDecode (v.setWidth 3) = c) ∨ (s.rx.mode = .dur ∧ classify s.cfg v.toNat = c)

/-- A pulse of the category is presented so that the block reads that category: as its code under BITDEC, as the
profile's duration under RXBURST when the windows give it back (30_encoding.md R101; log entry 5). -/
abbrev PulseIsRead (s : State) (c : Category) : Prop :=
  s.rx.mode = .cat ∨ (s.rx.mode = .dur ∧ classify s.cfg (profileDuration s.cfg c).toNat = c)

/-- Instructions run one after the other, as far as they answer a next state. -/
def execAll : List Instr → State → Host.Outcome State Fault Refusal
  | [], s => .next s
  | i :: is, s =>
    match exec i s with
    | .next t => execAll is t
    | .fault x => .fault x
    | .refused x => .refused x

/-- The port words of one burst: `last` on the final sample alone (20_memory.md R66). -/
def burstOf : List Duration → List Instr
  | [] => []
  | [v] => [.portword true v]
  | v :: w :: vs => .portword false v :: burstOf (w :: vs)

/-- The host events of TXFRAME (45_control.md R216, 44_framecodec_encode.md R194). -/
def txframeEvents (r : RemoteId) (h c : Nibble) : List HostEvent :=
  [.regWrite 0x11 r.toNat, .regWrite 0x12 h.toNat, .regWrite 0x13 c.toNat, .regWrite 0x18 6] ++
    List.replicate 83 (.regRead 0x31)

/-- The state with events put before those the host has lined up. -/
def lineUp (es : List HostEvent) (s : State) : State :=
  s.withHost { s.host with pending := es ++ s.host.pending }

/-- The state with a value appended to what reads have returned. -/
def withReturned (vs : List RegValue) (s : State) : State :=
  s.withHost { s.host with returned := s.host.returned ++ vs }

end Sys2Proof.Machine
end

