-- ==== Sys2Proof/Certificates/Slice0/Obligations.lean ====
section
/-! DEFINITION. The statements for the provers, taken from the numbered rules of the spec. An equation
`exec i s = .next t` with `t` written as an update of `s` is at once the completion, the result and the frame. -/

open Sys2Proof Sys2Proof.Machine

/-! ### Encodings -/

/-- Decoding what the encoder writes gives the instruction back, for every row of the table and every operand.
The word forms of the wire rows are the model's (log entries 4, 8). -/
def Obligations.DecodeOfEncodeIsTheInstruction : Prop :=
  ∀ i : Instr, i.wellFormed = true → decode i.format (encode i) = .ok i

/-- The decoder answers well-formed instructions of the format it was asked for, and nothing else. -/
def Obligations.DecodedInstructionIsWellFormed : Prop :=
  ∀ (f : Format) (ws : List Nat) (i : Instr), decode f ws = .ok i → i.wellFormed = true ∧ i.format = f

/-- Words written out from the encodings of 30_encoding.md decode to the rows they stand for. That the words of a data
symbol are two category codes, and that the row can be decoded by itself, is the model's choice (log entry 4). -/
def Obligations.SpecWordsDecodeToTheirRows : Prop :=
  decode .op [0b010] = .ok .rxburst ∧ decode .op [0b1110] = .ok .fenc ∧
    decode .port17 [0x11B58] = .ok (.portword true 7000) ∧ decode .port17 [0x001CA] = .ok (.portword false 458) ∧
    decode .frame40 [0b1001100001000110000110100100001100110010] = .ok (.frame40 0x98461A 4 3 0x32) ∧
    decode (.symbol .data) [0b001, 0b010] = .ok .bit0 ∧ decode (.symbol .data) [0b010, 0b001] = .ok .bit1 ∧
    decode (.symbol .data) [0b001, 0b001] = .ok (.badpair .short .short) ∧
    decode .catcode [0b100] = .ok .catGap ∧ decode .catcode [0b111] = .ok .catUnknown ∧
    decode .errcode [0b11] = .ok .errLengthMismatch

/-- 30_encoding.md R95: the pair sent for a bit, its order on the air, and PairBit as its inverse. -/
def Obligations.SentPairReadsBackAsItsBit : Prop :=
  bitPair false = (.short, .long) ∧ bitPair true = (.long, .short) ∧
    (∀ b : Bool, pairBit (bitPair b).1 (bitPair b).2 = some b) ∧
    ∀ (g : CfgRegs) (w : FrameWord) (i : Nat), i < 40 →
      pulseAt g w (2 + 2 * i) = profileDuration g (bitPair (frameBit w i)).1 ∧
        pulseAt g w (3 + 2 * i) = profileDuration g (bitPair (frameBit w i)).2

/-- 42_framecodec_decode.md R170: parsing and serialising are inverse. -/
def Obligations.ParseAndSerialiseAreInverse : Prop :=
  (∀ (g : CfgRegs) (w : FrameWord),
    ∃ f : Parsed, frameParse g (frameBits w) = .ok f ∧
      f.remote = w.extractLsb' 16 24 ∧ f.channel = w.extractLsb' 12 4 ∧ f.command = w.extractLsb' 8 4 ∧
      f.check = w.extractLsb' 0 8 ∧ (f.remote ++ f.channel ++ f.command ++ f.check : BitVec 40) = w) ∧
    ∀ (g : CfgRegs) (r : RemoteId) (h c : Nibble),
      frameParse g (frameBits (frameWord g r h c)) =
        .ok
          { remote := r, channel := h, command := c, check := checksum g r h c
            expected := checksum g r h c, valid := true }

/-- 10_state.md R21: the 32 registers, their numbers and their widths, and no others. -/
def Obligations.RegisterNumbersAreOneToOne : Prop :=
  (∀ (n : Nat) (r : Reg), regOfNum n = some r ↔ n = r.num) ∧
    ∀ (n : Nat) (r : Reg) (width : Nat), regOfNum n = some r ∧ r.width = width ↔
      (n, r, width) ∈ ([
        (0x00, .shortMin, 16), (0x01, .shortMax, 16), (0x02, .longMin, 16), (0x03, .longMax, 16),
        (0x04, .syncMin, 16), (0x05, .syncMax, 16), (0x06, .gapMin, 16), (0x07, .gapMax, 16),
        (0x08, .tPreamble, 16), (0x09, .tSync, 16), (0x0A, .tShort, 16), (0x0B, .tLong, 16), (0x0C, .tGap, 16),
        (0x0D, .ckCtrl, 16), (0x10, .opDur, 16), (0x11, .fRemote, 24), (0x12, .fChannel, 4), (0x13, .fCommand, 4),
        (0x14, .fChecksum, 8), (0x18, .cmd, 3), (0x19, .status, 8), (0x1A, .resCat, 3), (0x1B, .resCk, 8),
        (0x20, .rxStatus, 5), (0x21, .rxRemote, 24), (0x22, .rxChannel, 4), (0x23, .rxCommand, 4),
        (0x24, .rxChecksum, 8), (0x25, .rxExpected, 8), (0x26, .rxBits, 40), (0x30, .rxData, 17),
        (0x31, .txData, 17)] :
        List (Nat × Reg × Nat))

/-! ### The step and the host's events -/

/-- A step runs the instruction that the next event's words decode to: a CMD write, an RX_DATA write, and the words
of a table row (`present` is the model's own event, log entry 4). The event leaves the host's list, which is the
model's choice of how events reach the block (log entry 1). -/
def Obligations.StepRunsTheDecodedInstruction : Prop :=
  ∀ (s : State) (rest : List HostEvent) (i : Instr),
    (∀ v : Nat, s.host.pending = .regWrite 0x18 v :: rest → decode .op [v] = .ok i →
      step s = exec i (s.withHost { s.host with pending := rest })) ∧
    (∀ v : Nat, s.host.pending = .regWrite 0x30 v :: rest → decode .port17 [v] = .ok i →
      step s = exec i (s.withHost { s.host with pending := rest })) ∧
    ∀ (f : Format) (ws : List Nat), s.host.pending = .present f ws :: rest → decode f ws = .ok i →
      step s = exec i (s.withHost { s.host with pending := rest })

/-- The word of an opcode-table row put before the host's events is what the very next step runs (log entry 8). -/
def Obligations.TableWordRunsNext : Prop :=
  ∀ (s : State) (nbits w : Nat) (i : Instr),
    decodeTableWord nbits w = some i → step (s.withFetchWord nbits w) = exec i s

/-- 45_control.md R210: `v[2:0]` selects the operation and higher bits are ignored. The host's list of events and of
values read is the model's choice (log entries 1, 2). -/
def Obligations.CommandWriteSelectsByLowThreeBits : Prop :=
  ∀ (s : State) (v : Nat) (rest : List HostEvent), s.host.pending = .regWrite 0x18 v :: rest →
    (v % 8 = 0 → step s = exec .reserved0 (s.withHost { s.host with pending := rest })) ∧
    (v % 8 = 1 → step s = exec .classify (s.withHost { s.host with pending := rest })) ∧
    (v % 8 = 2 → step s = exec .rxburst (s.withHost { s.host with pending := rest })) ∧
    (v % 8 = 3 → step s = exec .bitdec (s.withHost { s.host with pending := rest })) ∧
    (v % 8 = 4 → step s = exec .fdec (s.withHost { s.host with pending := rest })) ∧
    (v % 8 = 5 → step s = exec .cksum (s.withHost { s.host with pending := rest })) ∧
    (v % 8 = 6 → step s = exec .fenc (s.withHost { s.host with pending := rest })) ∧
    (v % 8 = 7 → step s = exec .sreset (s.withHost { s.host with pending := rest }))

/-- The block takes no step of its own (00_scope.md R7); that a step is then the identity is the model's choice
(log entry 1). -/
def Obligations.NothingHappensWithoutAnEvent : Prop :=
  ∀ s : State, s.host.pending = [] → step s = .next s

/-- 60_exceptions.md R231: every instruction and every event is defined in every state; the step is total, with no
fault and no refusal. The host's list of events, the step with none lined up and the event `present` are the model's
choice (log entries 1, 4, 10). -/
def Obligations.EveryEventIsDefinedInEveryState : Prop :=
  (∀ (i : Instr) (s : State), ∃ t : State, exec i s = .next t) ∧
    (∀ (e : HostEvent) (s : State), ∃ t : State, performEvent e s = .next t) ∧
    ∀ s : State, ∃ t : State, step s = .next t

/-- 20_memory.md R62 and R61: a read of any register but TX_DATA returns the register's value and changes nothing of
the block; `host` is the model's own (log entry 2). -/
def Obligations.ReadChangesNothingOfTheBlock : Prop :=
  ∀ (s : State) (r : Reg) (rest : List HostEvent), r ≠ .txData → s.host.pending = .regRead r.num :: rest →
    step s = .next (s.withHost { s.host with pending := rest, returned := s.host.returned ++ [readReg r s] })

/-- 10_state.md R22 to R29, R26, R31: what every register reads as in every state, bit by bit for STATUS (R27) and
RX_STATUS (R29, with the error codes of 30_encoding.md R108); CMD and RX_DATA read 0. A read of TX_DATA is a pop. -/
def Obligations.RegistersReadAsTheirElements : Prop :=
  ∀ s : State,
    ((readReg .status s).getLsbD 0 = true ↔ s.rx.phase ≠ .idle) ∧
      (readReg .status s).getLsbD 1 = s.flags.txBusy ∧ (readReg .status s).getLsbD 2 = s.flags.rxDone ∧
      (readReg .status s).getLsbD 3 = s.flags.txDone ∧ (readReg .status s).getLsbD 4 = s.flags.illOp ∧
      (readReg .status s).getLsbD 5 = s.flags.busyErr ∧ (readReg .status s).getLsbD 6 = s.flags.rxOvr ∧
      (readReg .status s).getLsbD 7 = s.flags.txUdr ∧ (readReg .status s).toNat < 2 ^ 8 ∧
      (readReg .rxStatus s).getLsbD 0 = s.rxRes.ok ∧
      ((readReg .rxStatus s).extractLsb' 1 2).toNat =
        (match s.rxRes.err with
          | .noError => 0
          | .malformedPulsePair => 1
          | .unexpectedLength => 2
          | .lengthMismatch => 3) ∧
      (readReg .rxStatus s).getLsbD 3 = s.rxRes.ckValid ∧ (readReg .rxStatus s).getLsbD 4 = s.rxRes.gapSeen ∧
      (readReg .rxStatus s).toNat < 2 ^ 5 ∧
      (readReg .resCat s).toNat = s.resCat.toNat ∧ (readReg .resCk s).toNat = s.resCk.toNat ∧
      (readReg .rxRemote s).toNat = s.rxRes.remote.toNat ∧ (readReg .rxChannel s).toNat = s.rxRes.channel.toNat ∧
      (readReg .rxCommand s).toNat = s.rxRes.command.toNat ∧ (readReg .rxChecksum s).toNat = s.rxRes.checksum.toNat ∧
      (readReg .rxExpected s).toNat = s.rxRes.expected.toNat ∧ (readReg .rxBits s).toNat = s.rxRes.bits.toNat ∧
      (readReg .cmd s).toNat = 0 ∧ (readReg .rxData s).toNat = 0 ∧
      (readReg .shortMin s).toNat = s.cfg.shortMin.toNat ∧ (readReg .shortMax s).toNat = s.cfg.shortMax.toNat ∧
      (readReg .longMin s).toNat = s.cfg.longMin.toNat ∧ (readReg .longMax s).toNat = s.cfg.longMax.toNat ∧
      (readReg .syncMin s).toNat = s.cfg.syncMin.toNat ∧ (readReg .syncMax s).toNat = s.cfg.syncMax.toNat ∧
      (readReg .gapMin s).toNat = s.cfg.gapMin.toNat ∧ (readReg .gapMax s).toNat = s.cfg.gapMax.toNat ∧
      (readReg .tPreamble s).toNat = s.cfg.tPreamble.toNat ∧ (readReg .tSync s).toNat = s.cfg.tSync.toNat ∧
      (readReg .tShort s).toNat = s.cfg.tShort.toNat ∧ (readReg .tLong s).toNat = s.cfg.tLong.toNat ∧
      (readReg .tGap s).toNat = s.cfg.tGap.toNat ∧ (readReg .ckCtrl s).toNat = s.cfg.ckCtrl.toNat ∧
      (readReg .opDur s).toNat = s.opr.opDur.toNat ∧ (readReg .fRemote s).toNat = s.opr.fRemote.toNat ∧
      (readReg .fChannel s).toNat = s.opr.fChannel.toNat ∧ (readReg .fCommand s).toNat = s.opr.fCommand.toNat ∧
      (readReg .fChecksum s).toNat = s.opr.fChecksum.toNat

/-- 20_memory.md R61: what a register reads as is below 2^W, W its width. -/
def Obligations.RegisterValuesFitTheirWidths : Prop :=
  ∀ (r : Reg) (s : State), (readReg r s).toNat < 2 ^ r.width

/-- 20_memory.md R63: an unmapped number reads 0 and ignores writes. The host's list of events and of values read is
the model's choice (log entries 1, 2). -/
def Obligations.UnmappedNumbersReadZeroAndIgnoreWrites : Prop :=
  ∀ (s : State) (n v : Nat) (rest : List HostEvent), (∀ r : Reg, n ≠ r.num) →
    (s.host.pending = .regRead n :: rest →
      step s = .next (s.withHost { s.host with pending := rest, returned := s.host.returned ++ [0] })) ∧
    (s.host.pending = .regWrite n v :: rest → step s = .next (s.withHost { s.host with pending := rest }))

/-- 20_memory.md R64: a configuration write while both engines are idle stores the low 16 bits, bits 7:1 of CK_CTRL
forced to 0; while either is busy it only sets busy_err. The host's list of events and of values read is the model's
choice (log entries 1, 2). -/
def Obligations.ConfigurationIsLockedWhileBusy : Prop :=
  ∀ (s : State) (r : Reg) (v : Nat) (rest : List HostEvent), r.isConfig = true →
    s.host.pending = .regWrite r.num v :: rest →
      (s.rx.phase = .idle ∧ s.flags.txBusy = false →
        ∃ g : CfgRegs, step s = .next ((s.withHost { s.host with pending := rest }).withCfg g) ∧
          (readReg r (s.withCfg g)).toNat =
            (if r = .ckCtrl then (v % 2 ^ 16) &&& 0xFF01 else v % 2 ^ 16) ∧
          ∀ q : Reg, q ≠ r → readReg q (s.withCfg g) = readReg q s) ∧
      (s.rx.phase ≠ .idle ∨ s.flags.txBusy = true →
        step s =
          .next ((s.withHost { s.host with pending := rest }).withFlags { s.flags with busyErr := true }))

/-- 20_memory.md R65 (and R61's truncation): read-only registers ignore writes, write-only ones read 0, operand
registers take every write. The host's list of events and of values read is the model's choice (log entries 1, 2).
-/
def Obligations.AccessKindsAreKept : Prop :=
  ∀ (s : State) (v : Nat) (rest : List HostEvent),
    (∀ r : Reg, r ∈ [Reg.resCat, .resCk, .rxStatus, .rxRemote, .rxChannel, .rxCommand, .rxChecksum, .rxExpected,
        .rxBits, .txData] → s.host.pending = .regWrite r.num v :: rest →
      step s = .next (s.withHost { s.host with pending := rest })) ∧
    (v % 256 < 16 → s.host.pending = .regWrite 0x19 v :: rest →
      step s = .next (s.withHost { s.host with pending := rest })) ∧
    (∀ n : Nat, n = 0x18 ∨ n = 0x30 → s.host.pending = .regRead n :: rest →
      step s = .next (s.withHost { s.host with pending := rest, returned := s.host.returned ++ [0] })) ∧
    ∀ r : Reg, r.isOperand = true → s.host.pending = .regWrite r.num v :: rest →
      ∃ o : OperandRegs, step s = .next ((s.withHost { s.host with pending := rest }).withOpr o) ∧
        (readReg r (s.withOpr o)).toNat = v % 2 ^ r.width ∧
        ∀ q : Reg, q ≠ r → readReg q (s.withOpr o) = readReg q s

/-- 10_state.md R27: a STATUS write clears the sticky bits written as 1 and changes nothing else. The host's list of
events and of values read is the model's choice (log entries 1, 2). -/
def Obligations.StatusWriteClearsTheStickyBitsWritten : Prop :=
  ∀ (s : State) (v : Nat) (rest : List HostEvent), s.host.pending = .regWrite 0x19 v :: rest →
    ∃ f : StatusBits, step s = .next ((s.withHost { s.host with pending := rest }).withFlags f) ∧
      (s.withFlags f).statusWord = s.statusWord &&& ~~~(BitVec.ofNat 8 v &&& 0xF0)

/-- 70_reset_and_hazards.md R250, 10_state.md R44: reset gives every element its reset value. That the host's side
stays is the model's choice (log entry 11). -/
def Obligations.ResetEventGivesTheResetState : Prop :=
  ∀ (s : State) (rest : List HostEvent), s.host.pending = .reset :: rest →
    step s =
      .next
        { cfg :=
            { shortMin := 420, shortMax := 510, longMin := 1050, longMax := 1110, syncMin := 2370, syncMax := 2400
              gapMin := 6500, gapMax := 7500, tPreamble := 700, tSync := 2400, tShort := 458, tLong := 1059
              tGap := 7000, ckCtrl := 0x3200 }
          opr := { opDur := 0, fRemote := 0, fChannel := 0, fCommand := 0, fChecksum := 0 }
          flags :=
            { txBusy := false, rxDone := false, txDone := false, illOp := false, busyErr := false, rxOvr := false
              txUdr := false }
          resCat := 0
          resCk := 0
          rxRes :=
            { ok := false, err := .noError, ckValid := false, gapSeen := false, remote := 0, channel := 0
              command := 0, checksum := 0, expected := 0, bits := 0 }
          rx :=
            { phase := .idle, mode := .dur, half := false, first := 0, cnt := 0, sr := 0, err := .noError
              gap := false }
          tx := { word := 0, idx := 0 }
          host := { s.host with pending := rest } }

/-! ### Commands -/

/-- 40_classifier.md R130, R131: CLASSIFY writes the code of the first window that holds OP_DUR, in any state, and
nothing else. -/
def Obligations.ClassifyWritesTheFirstMatchingWindow : Prop :=
  ∀ s : State, ∃ code : BitVec 3, exec .classify s = .next (s.withResCat code) ∧
    let d := s.opr.opDur.toNat
    let inShort := s.cfg.shortMin.toNat ≤ d ∧ d ≤ s.cfg.shortMax.toNat
    let inLong := s.cfg.longMin.toNat ≤ d ∧ d ≤ s.cfg.longMax.toNat
    let inSync := s.cfg.syncMin.toNat ≤ d ∧ d ≤ s.cfg.syncMax.toNat
    let inGap := s.cfg.gapMin.toNat ≤ d ∧ d ≤ s.cfg.gapMax.toNat
    (inShort → code = 1) ∧ (¬inShort ∧ inLong → code = 2) ∧ (¬inShort ∧ ¬inLong ∧ inSync → code = 3) ∧
      (¬inShort ∧ ¬inLong ∧ ¬inSync ∧ inGap → code = 4) ∧
      (¬inShort ∧ ¬inLong ∧ ¬inSync ∧ ¬inGap → code = 0)

/-- 30_encoding.md R91: the table of categories under the reset windows. -/
def Obligations.ResetWindowsGiveTheCategoryTable : Prop :=
  ∀ d : Nat, d ≤ 65535 →
    (d ≤ 419 → classify State.reset.cfg d = .unknown) ∧
    (420 ≤ d ∧ d ≤ 510 → classify State.reset.cfg d = .short) ∧
    (511 ≤ d ∧ d ≤ 1049 → classify State.reset.cfg d = .unknown) ∧
    (1050 ≤ d ∧ d ≤ 1110 → classify State.reset.cfg d = .long) ∧
    (1111 ≤ d ∧ d ≤ 2369 → classify State.reset.cfg d = .unknown) ∧
    (2370 ≤ d ∧ d ≤ 2400 → classify State.reset.cfg d = .sync) ∧
    (2401 ≤ d ∧ d ≤ 6499 → classify State.reset.cfg d = .unknown) ∧
    (6500 ≤ d ∧ d ≤ 7500 → classify State.reset.cfg d = .gap) ∧
    (7501 ≤ d → classify State.reset.cfg d = .unknown)

/-- 43_checksum.md R184, R181, R183: CKSUM writes CK_CONST in CONSTANT mode and CK_FN of the payload in COMPUTED
mode, which is 0x32 at its one known point, and nothing else. CK_FN is open elsewhere (log entry 3). -/
def Obligations.CksumFollowsTheChecksumMode : Prop :=
  ∀ s : State, ∃ k : BitVec 8, exec .cksum s = .next (s.withResCk k) ∧
    (s.cfg.ckCtrl.getLsbD 0 = false → k = s.cfg.ckCtrl.extractLsb' 8 8) ∧
    (s.cfg.ckCtrl.getLsbD 0 = true → k = ckFn s.opr.fRemote s.opr.fChannel s.opr.fCommand) ∧
    (s.cfg.ckCtrl.getLsbD 0 = true ∧ s.opr.fRemote = 0x98461A ∧ s.opr.fChannel = 4 ∧ s.opr.fCommand = 3 → k = 0x32)

/-- 45_control.md R212 with 42_framecodec_decode.md R167, R160 and 41_bitdecoder.md R140: an accepted RX command
clears the RX engine, its results and rx_done, and sets the mode and the phase. -/
def Obligations.AcceptedReceiveCommandsArmTheEngine : Prop :=
  ∀ s : State, s.rx.phase = .idle →
    let armed (m : RxMode) (p : RxPhase) : State :=
      ((s.withRx
          { phase := p, mode := m, half := false, first := 0, cnt := 0, sr := 0, err := .noError
            gap := false }).withRxRes RxResults.zero).withFlags { s.flags with rxDone := false }
    exec .rxburst s = .next (armed .dur .hunt) ∧ exec .bitdec s = .next (armed .cat .hunt) ∧
      exec .fdec s = .next (armed .bit .bits)

/-- 45_control.md R211: a command for a busy engine only sets busy_err; the other engine does not refuse it. -/
def Obligations.CommandsForABusyEngineAreRefused : Prop :=
  ∀ s : State,
    (∀ i : Instr, i = .rxburst ∨ i = .bitdec ∨ i = .fdec →
      (s.rx.phase ≠ .idle → exec i s = .next (s.withFlags { s.flags with busyErr := true })) ∧
      (s.rx.phase = .idle → ∃ t : State, exec i s = .next t ∧ t.rx.phase ≠ .idle ∧
        t.flags = { s.flags with rxDone := false })) ∧
    (s.flags.txBusy = true → exec .fenc s = .next (s.withFlags { s.flags with busyErr := true })) ∧
    (s.flags.txBusy = false → ∃ t : State, exec .fenc s = .next t ∧
      t.flags = { s.flags with txBusy := true, txDone := false })

/-- 44_framecodec_encode.md R190, R191: an accepted FENC latches remoteId ‖ channelRaw ‖ commandRaw ‖ checksum. -/
def Obligations.AcceptedFencLatchesTheFrameWord : Prop :=
  ∀ s : State, s.flags.txBusy = false →
    exec .fenc s =
      .next
        ((s.withTx
            { word := s.opr.fRemote ++ s.opr.fChannel ++ s.opr.fCommand ++
                checksum s.cfg s.opr.fRemote s.opr.fChannel s.opr.fCommand
              idx := 0 }).withFlags
          { s.flags with txBusy := true, txDone := false })

/-- 44_framecodec_encode.md R195: frame bits 32 to 39 of the train are the checksum unit's answer for the payload;
F_CHECKSUM, whatever it holds, changes nothing. -/
def Obligations.TransmittedChecksumIsNeverStale : Prop :=
  ∀ (s : State) (stale : CheckByte), s.flags.txBusy = false →
    ∃ t : State, exec .fenc (s.withOpr { s.opr with fChecksum := stale }) = .next t ∧
      ∀ i : Nat, i < 8 →
        let sent := (checksum s.cfg s.opr.fRemote s.opr.fChannel s.opr.fCommand).getLsbD (7 - i)
        frameBit t.tx.word (32 + i) = sent ∧
          pulseAt t.cfg t.tx.word (66 + 2 * i) = (if sent then s.cfg.tLong else s.cfg.tShort) ∧
          pulseAt t.cfg t.tx.word (67 + 2 * i) = (if sent then s.cfg.tShort else s.cfg.tLong)

/-- 45_control.md R214: SRESET leaves both engines idle, results, STATUS and internal state cleared, and keeps the
configuration and the operand registers. -/
def Obligations.SoftResetClearsAllButConfigurationAndOperands : Prop :=
  ∀ s : State,
    exec .sreset s =
      .next
        { cfg := s.cfg
          opr := s.opr
          flags :=
            { txBusy := false, rxDone := false, txDone := false, illOp := false, busyErr := false, rxOvr := false
              txUdr := false }
          resCat := 0
          resCk := 0
          rxRes :=
            { ok := false, err := .noError, ckValid := false, gapSeen := false, remote := 0, channel := 0
              command := 0, checksum := 0, expected := 0, bits := 0 }
          rx :=
            { phase := .idle, mode := .dur, half := false, first := 0, cnt := 0, sr := 0, err := .noError
              gap := false }
          tx := { word := 0, idx := 0 }
          host := s.host }

/-- 70_reset_and_hazards.md R251: SRESET is reset, but that it keeps the configuration and the operand registers.
That reset keeps the host's side is the model's choice (log entry 11). -/
def Obligations.SoftResetIsResetButForWhatItKeeps : Prop :=
  ∀ s : State, ∃ u : State, performEvent .reset s = .next u ∧
    exec .sreset s = .next ((u.withCfg s.cfg).withOpr s.opr)

/-- 45_control.md R215: the reserved op code sets ill_op and changes nothing else. -/
def Obligations.ReservedCommandOnlySetsIllOp : Prop :=
  ∀ s : State, exec .reserved0 s = .next (s.withFlags { s.flags with illOp := true })

/-! ### The RX sequencer -/

/-- 20_memory.md R67: a sample pushed while the RX engine is idle is dropped and sets rx_ovr. -/
def Obligations.SampleWhileIdleIsDropped : Prop :=
  ∀ (s : State) (last : Bool) (v : Duration), s.rx.phase = .idle →
    exec (.portword last v) s = .next (s.withFlags { s.flags with rxOvr := true })

/-- 41_bitdecoder.md R144: HUNT skips every sample but a SYNC, which starts the data. -/
def Obligations.HuntSkipsUntilTheSync : Prop :=
  ∀ (s : State) (v : Duration) (c : Category), s.rx.phase = .hunt → SampleHasCategory s v c →
    exec (.portword false v) s = .next (if c = .sync then s.withRx { s.rx with phase := .data } else s)

/-- 41_bitdecoder.md R145: the first pulse of a pair is held, whatever its category. -/
def Obligations.FirstPulseOfAPairIsHeld : Prop :=
  ∀ (s : State) (v : Duration) (c : Category), s.rx.phase = .data → s.rx.half = false → c ≠ .gap →
    SampleHasCategory s v c →
      exec (.portword false v) s = .next (s.withRx { s.rx with first := c.code, half := true })

/-- 41_bitdecoder.md R146: a GAP before the 40th bit is UnexpectedLength; the held pulse is not judged. -/
def Obligations.GapAmongTheDataIsUnexpectedLength : Prop :=
  ∀ (s : State) (v : Duration), s.rx.phase = .data → SampleHasCategory s v .gap →
    exec (.portword false v) s = .next (s.withRx { s.rx with err := .unexpectedLength, phase := .flush })

/-- 41_bitdecoder.md R147: the second pulse of a pair makes a bit, the 40th bit leads to TAIL, and every pair but
the two data symbols is MalformedPulsePair. -/
def Obligations.SecondPulseMakesABitOrAnError : Prop :=
  ∀ (s : State) (v : Duration) (c : Category), s.rx.phase = .data → s.rx.half = true → c ≠ .gap →
    SampleHasCategory s v c →
      (∀ b : Bool, (b = false ∧ s.rx.first = 1 ∧ c = .long) ∨ (b = true ∧ s.rx.first = 2 ∧ c = .short) →
        ∃ w : FrameWord, w.toNat = (2 * s.rx.sr.toNat + b.toNat) % 2 ^ 40 ∧
          exec (.portword false v) s =
            .next
              (s.withRx
                { s.rx with
                  half := false, sr := w, cnt := s.rx.cnt + 1
                  phase := if s.rx.cnt + 1 = 40 then .tail else .data })) ∧
      (¬(s.rx.first = 1 ∧ c = .long) ∧ ¬(s.rx.first = 2 ∧ c = .short) →
        exec (.portword false v) s =
          .next (s.withRx { s.rx with half := false, err := .malformedPulsePair, phase := .flush }))

/-- 41_bitdecoder.md R148: after 40 bits a GAP settles success and anything else is UnexpectedLength. -/
def Obligations.TailPulseSettlesTheBurst : Prop :=
  ∀ (s : State) (v : Duration) (c : Category), s.rx.phase = .tail → SampleHasCategory s v c →
    exec (.portword false v) s =
      .next
        (if c = .gap then s.withRx { s.rx with gap := true, phase := .flush }
         else s.withRx { s.rx with err := .unexpectedLength, phase := .flush })

/-- 41_bitdecoder.md R149: in FLUSH a sample that is not the last changes nothing. -/
def Obligations.FlushIgnoresSamples : Prop :=
  ∀ (s : State) (v : Duration), s.rx.phase = .flush → exec (.portword false v) s = .next s

/-- 42_framecodec_decode.md R163: FDEC shifts in 40 bits and counts to 41. -/
def Obligations.BitPhaseCollectsFortyBits : Prop :=
  ∀ (s : State) (v : Duration), s.rx.phase = .bits → s.rx.mode = .bit → s.rx.cnt.toNat ≤ 41 →
    ∃ (w : FrameWord) (n : BitVec 6),
      exec (.portword false v) s = .next (s.withRx { s.rx with sr := w, cnt := n }) ∧
        w.toNat = (if s.rx.cnt.toNat < 40 then (2 * s.rx.sr.toNat + v.toNat % 2) % 2 ^ 40 else s.rx.sr.toNat) ∧
        n.toNat = min (s.rx.cnt.toNat + 1) 41

/-- 42_framecodec_decode.md R165 after the end-of-burst checks of 41_bitdecoder.md R150 and R164: a sample with
`last` does what it would do without it, and then the results are written, the engine is idle and rx_done is 1. -/
def Obligations.LastSampleWritesTheResults : Prop :=
  ∀ (s : State) (v : Duration), s.rx.phase ≠ .idle →
    ∃ u : State, exec (.portword false v) s = .next u ∧
      let e : ErrCode :=
        if (u.rx.phase = .hunt ∨ u.rx.phase = .data) ∧ u.rx.err = .noError then .unexpectedLength
        else if u.rx.phase = .bits ∧ u.rx.cnt ≠ 40 then .lengthMismatch
        else u.rx.err
      let w := u.rx.sr
      let x := checksum u.cfg (w.extractLsb' 16 24) (w.extractLsb' 12 4) (w.extractLsb' 8 4)
      exec (.portword true v) s =
        .next
          (((u.withRx { u.rx with err := e, phase := .idle }).withRxRes
              (if e = .noError then
                { ok := true, err := .noError, ckValid := decide (w.extractLsb' 0 8 = x), gapSeen := u.rx.gap
                  remote := w.extractLsb' 16 24, channel := w.extractLsb' 12 4, command := w.extractLsb' 8 4
                  checksum := w.extractLsb' 0 8, expected := x, bits := w }
               else { u.rxRes with ok := false, err := e, ckValid := false, gapSeen := false })).withFlags
            { u.flags with rxDone := true })

/-- 41_bitdecoder.md R151: what the sequencer leaves at the end of a BITDEC or RXBURST burst is BitDecode of the
categories it computed, parsed as FDEC would, and nothing outside the RX engine, its results and rx_done changes. -/
def Obligations.SequencerComputesBitDecode : Prop :=
  ∀ (s : State) (vs : List Duration), s.rx.phase = .idle → vs ≠ [] →
    ∀ cmd : Instr, cmd = .bitdec ∨ cmd = .rxburst →
      ∃ e : RxEngine, e.phase = .idle ∧
        let cats := vs.map fun v => if cmd = .bitdec then catDecode (v.setWidth 3) else classify s.cfg v.toNat
        execAll (cmd :: burstOf vs) s =
          .next
            (((s.withRx e).withRxRes (resultsOf (parseDecoded s.cfg (bitDecode cats)))).withFlags
              { s.flags with rxDone := true })

/-- 42_framecodec_decode.md R167: the outcome of an RXBURST burst is RxDecode of its durations. -/
def Obligations.RxburstComputesRxDecode : Prop :=
  ∀ (s : State) (vs : List Duration), s.rx.phase = .idle → vs ≠ [] →
    ∃ e : RxEngine, e.phase = .idle ∧
      execAll (.rxburst :: burstOf vs) s =
        .next (((s.withRx e).withRxRes (resultsOf (rxDecode s.cfg vs))).withFlags { s.flags with rxDone := true })

/-- 42_framecodec_decode.md R160: the outcome of an FDEC burst is FrameParse of its bits, without a GAP. -/
def Obligations.FdecComputesFrameParse : Prop :=
  ∀ (s : State) (vs : List Duration), s.rx.phase = .idle → vs ≠ [] →
    ∃ e : RxEngine, e.phase = .idle ∧
      execAll (.fdec :: burstOf vs) s =
        .next
          (((s.withRx e).withRxRes
              (resultsOf (parseDecoded s.cfg (.ok (vs.map fun v => v.getLsbD 0, false))))).withFlags
            { s.flags with rxDone := true })

/-- 20_memory.md R77: the outcome of an RX operation depends on the command, the configuration and the samples, and
on nothing else of the state. -/
def Obligations.BurstOutcomeIgnoresEverythingElse : Prop :=
  ∀ (s t : State) (cmd : Instr) (vs : List Duration), cmd = .rxburst ∨ cmd = .bitdec ∨ cmd = .fdec →
    s.cfg = t.cfg → s.rx.phase = .idle → t.rx.phase = .idle → vs ≠ [] →
      ∃ s' t' : State, execAll (cmd :: burstOf vs) s = .next s' ∧ execAll (cmd :: burstOf vs) t = .next t' ∧
        s'.rxRes = t'.rxRes ∧ s'.flags.rxDone = true ∧ t'.flags.rxDone = true ∧
        s'.rx.phase = .idle ∧ t'.rx.phase = .idle

/-! ### The wire rows -/

/-- A category code sample in a BITDEC burst, first pulse of a pair (41_bitdecoder.md R145, R146, 30_encoding.md R92).
That a CATCODE row is run as a sample of RX_DATA is the model's choice (log entry 4). -/
def Obligations.CategoryCodesEnterThePair : Prop :=
  ∀ s : State, s.rx.phase = .data → s.rx.mode = .cat → s.rx.half = false →
    exec .catUnknown s = .next (s.withRx { s.rx with first := 0, half := true }) ∧
      exec .catShort s = .next (s.withRx { s.rx with first := 1, half := true }) ∧
      exec .catLong s = .next (s.withRx { s.rx with first := 2, half := true }) ∧
      exec .catSync s = .next (s.withRx { s.rx with first := 3, half := true }) ∧
      exec .catGap s = .next (s.withRx { s.rx with err := .unexpectedLength, phase := .flush })

/-- The two data symbols each shift in their bit (30_encoding.md R94, 41_bitdecoder.md R147). That a symbol is run as
the samples of its two pulses is the model's choice (log entries 4, 5). -/
def Obligations.DataSymbolsShiftTheirBitIn : Prop :=
  ∀ s : State, s.rx.phase = .data → s.rx.half = false → PulseIsRead s .short → PulseIsRead s .long →
    ∃ w0 w1 : FrameWord, w0.toNat = 2 * s.rx.sr.toNat % 2 ^ 40 ∧ w1.toNat = (2 * s.rx.sr.toNat + 1) % 2 ^ 40 ∧
      exec .bit0 s =
        .next
          (s.withRx
            { s.rx with
              first := 1, sr := w0, cnt := s.rx.cnt + 1
              phase := if s.rx.cnt + 1 = 40 then .tail else .data }) ∧
      exec .bit1 s =
        .next
          (s.withRx
            { s.rx with
              first := 2, sr := w1, cnt := s.rx.cnt + 1
              phase := if s.rx.cnt + 1 = 40 then .tail else .data })

/-- A pair that is no data symbol raises MalformedPulsePair; a GAP in it ends the data first (41_bitdecoder.md R146,
R147). The presentation is the model's choice (log entries 4, 5). -/
def Obligations.MalformedSymbolsRaiseTheirError : Prop :=
  ∀ (s : State) (a b : Category), (Instr.badpair a b).wellFormed = true → s.rx.phase = .data → s.rx.half = false →
    PulseIsRead s a → PulseIsRead s b →
      (a = .gap →
        exec (.badpair a b) s = .next (s.withRx { s.rx with err := .unexpectedLength, phase := .flush })) ∧
      (a ≠ .gap → b = .gap →
        exec (.badpair a b) s =
          .next (s.withRx { s.rx with first := a.code, half := true, err := .unexpectedLength, phase := .flush })) ∧
      (a ≠ .gap → b ≠ .gap →
        exec (.badpair a b) s =
          .next (s.withRx { s.rx with first := a.code, err := .malformedPulsePair, phase := .flush }))

/-- Preamble pulses are skipped, the sync starts the data, the end-gap after 40 bits settles success
(41_bitdecoder.md R144, R148). The presentation is the model's choice (log entries 4, 5). -/
def Obligations.StructurePulsesMoveTheFramer : Prop :=
  ∀ s : State,
    (∀ c : Category, s.rx.phase = .hunt → c ≠ .sync →
      s.rx.mode = .cat ∨ (s.rx.mode = .dur ∧ classify s.cfg s.cfg.tPreamble.toNat ≠ .sync) →
        exec (.preamble c) s = .next s) ∧
    (s.rx.phase = .hunt → PulseIsRead s .sync → exec .sync s = .next (s.withRx { s.rx with phase := .data })) ∧
    (s.rx.phase = .tail → PulseIsRead s .gap →
      exec .endgap s = .next (s.withRx { s.rx with gap := true, phase := .flush }))

/-- The forty bits of a frame word, pushed into a freshly armed FDEC, give the frame's fields and the verdict
(42_framecodec_decode.md R161, R165). That FRAME40 is run as that burst is the model's choice (log entry 4). -/
def Obligations.FrameWordIsParsedIntoItsFields : Prop :=
  ∀ (s : State) (r : RemoteId) (h c : Nibble) (k : CheckByte),
    s.rx.phase = .bits → s.rx.mode = .bit → s.rx.cnt = 0 → s.rx.err = .noError → s.rx.gap = false →
      exec (.frame40 r h c k) s =
        .next
          (((s.withRx { s.rx with phase := .idle, cnt := 40, sr := r ++ h ++ c ++ k }).withRxRes
              { ok := true, err := .noError, ckValid := decide (k = checksum s.cfg r h c), gapSeen := false
                remote := r, channel := h, command := c, checksum := k, expected := checksum s.cfg r h c
                bits := r ++ h ++ c ++ k }).withFlags
            { s.flags with rxDone := true })

/-- 44_framecodec_encode.md R200 and 41_bitdecoder.md R152, first row: the train of any frame word, pushed into a
freshly armed BITDEC, or into RXBURST in a loop-compatible configuration, decodes to that word with the GAP seen.
That TRAIN is run as that burst is the model's choice (log entries 4, 5). -/
def Obligations.TrainDecodesToItsFrameWord : Prop :=
  ∀ (s : State) (p : Category) (w : FrameWord), p ≠ .sync → s.rx.phase = .hunt → s.rx.half = false →
    s.rx.cnt = 0 → s.rx.err = .noError → s.rx.gap = false →
    s.rx.mode = .cat ∨ (s.rx.mode = .dur ∧ LoopCompatible s.cfg) →
      ∃ e : RxEngine, e.phase = .idle ∧ e.sr = w ∧
        let x := checksum s.cfg (wordRemote w) (wordChannel w) (wordCommand w)
        exec (.train p w) s =
          .next
            (((s.withRx e).withRxRes
                { ok := true, err := .noError, ckValid := decide (wordCheck w = x), gapSeen := true
                  remote := wordRemote w, channel := wordChannel w, command := wordCommand w
                  checksum := wordCheck w, expected := x, bits := w }).withFlags
              { s.flags with rxDone := true })

/-- 60_exceptions.md R224, 41_bitdecoder.md R146 to R148, 42_framecodec_decode.md R164, R165: what each error code
does in the phases that raise it, and that it does nothing elsewhere. That an ERRCODE row can be run by itself is the
model's choice (log entry 6). -/
def Obligations.ErrorCodesAreTakenWhereTheyArise : Prop :=
  ∀ s : State,
    exec .errNone s = .next s ∧
      exec .errMalformedPulsePair s =
        .next
          (if s.rx.phase = .data then s.withRx { s.rx with err := .malformedPulsePair, phase := .flush } else s) ∧
      exec .errUnexpectedLength s =
        .next
          (if s.rx.phase = .data ∨ s.rx.phase = .tail then
            s.withRx { s.rx with err := .unexpectedLength, phase := .flush }
           else if s.rx.phase = .hunt then
            ((s.withRx { s.rx with err := .unexpectedLength, phase := .idle }).withRxRes
                { s.rxRes with ok := false, err := .unexpectedLength, ckValid := false, gapSeen := false }).withFlags
              { s.flags with rxDone := true }
           else s) ∧
      exec .errLengthMismatch s =
        .next
          (if s.rx.phase = .bits then
            ((s.withRx { s.rx with err := .lengthMismatch, phase := .idle }).withRxRes
                { s.rxRes with ok := false, err := .lengthMismatch, ckValid := false, gapSeen := false }).withFlags
              { s.flags with rxDone := true }
           else s)

/-! ### The TX engine -/

/-- 44_framecodec_encode.md R196: a pop returns `last ‖ d` of the pulse at tx_idx and moves to the next index; the
83rd ends the train. The host's list of events and of values read is the model's choice (log entries 1, 2). -/
def Obligations.PopReturnsThePulseAndAdvances : Prop :=
  ∀ (s : State) (rest : List HostEvent), s.host.pending = .regRead 0x31 :: rest → s.flags.txBusy = true →
    let popped (v : BitVec 17) : State :=
      s.withHost { s.host with pending := rest, returned := s.host.returned ++ [v.setWidth 40] }
    (s.tx.idx.toNat < 82 → ∃ n : BitVec 7, n.toNat = s.tx.idx.toNat + 1 ∧
      step s =
        .next ((popped (0#1 ++ pulseAt s.cfg s.tx.word s.tx.idx.toNat)).withTx { s.tx with idx := n })) ∧
    (s.tx.idx.toNat = 82 →
      step s =
        .next
          (((popped (1#1 ++ s.cfg.tGap)).withTx { s.tx with idx := 0 }).withFlags
            { s.flags with txBusy := false, txDone := true }))

/-- 20_memory.md R69: a pop while the TX engine is idle returns 0 and sets tx_udr, nothing else. The host's list of
events and of values read is the model's choice (log entries 1, 2). -/
def Obligations.PopWhileIdleReturnsZero : Prop :=
  ∀ (s : State) (rest : List HostEvent), s.host.pending = .regRead 0x31 :: rest → s.flags.txBusy = false →
    step s =
      .next
        ((s.withHost { s.host with pending := rest, returned := s.host.returned ++ [0] }).withFlags
          { s.flags with txUdr := true })

/-- 44_framecodec_encode.md R194, R192: TXFRAME on an idle TX engine returns the 83 pulses of the payload's train, in
order, the 83rd alone with `last`, and leaves the engine idle with tx_done. That the whole expansion is one
instruction is the model's choice (log entry 7). -/
def Obligations.TxframeReturnsTheWholeTrain : Prop :=
  ∀ (s : State) (r : RemoteId) (h c : Nibble), s.flags.txBusy = false →
    exec (.txframe r h c) s =
      .next
        ((((withReturned
                ((List.range 83).map fun k =>
                  ((BitVec.ofBool (decide (k = 82)) ++
                    pulseAt s.cfg (r ++ h ++ c ++ checksum s.cfg r h c) k : BitVec 17)).setWidth 40) s).withOpr
              { s.opr with fRemote := r, fChannel := h, fCommand := c }).withTx
            { word := r ++ h ++ c ++ checksum s.cfg r h c, idx := 0 }).withFlags
          { s.flags with txBusy := false, txDone := true })

/-- 44_framecodec_encode.md R194, 45_control.md R216: TXFRAME is its expansion, the operand writes, the FENC and the
83 reads issued one by one, in every state. That the whole expansion is one instruction is the model's choice (log
entry 7), and so are the host's list of events and of values read (log entries 1, 2). -/
def Obligations.TxframeRefinesItsExpansion : Prop :=
  ∀ (s : State) (r : RemoteId) (h c : Nibble),
    Host.Core.run Sys2Proof.core 87 (lineUp (txframeEvents r h c) s) = exec (.txframe r h c) s

/-- 30_encoding.md R106: VALIDATE writes the payload, runs CKSUM, reads RES_CK and compares; all of it at once, and
the host's verdict kept in the model's own field, is the model's choice (log entries 2, 7). -/
def Obligations.ValidateComparesWithTheChecksumUnit : Prop :=
  ∀ (s : State) (r : RemoteId) (h c : Nibble) (k : CheckByte),
    exec (.validate r h c k) s =
      .next
        (((s.withOpr { s.opr with fRemote := r, fChannel := h, fCommand := c }).withResCk
            (checksum s.cfg r h c)).withHost
          { s.host with
            returned := s.host.returned ++ [(checksum s.cfg r h c).setWidth 40]
            verdict := some (decide (checksum s.cfg r h c = k)) })

/-- 44_framecodec_encode.md R198: the shape of every train. -/
def Obligations.EveryTrainHasTheSameShape : Prop :=
  ∀ (g : CfgRegs) (w : FrameWord),
    (train g w).length = 83 ∧
      (g.tShort ≠ g.tLong →
        (((train g w).drop 2).take 80).count g.tShort = 40 ∧ (((train g w).drop 2).take 80).count g.tLong = 40) ∧
      ((((train g w).drop 2).take 80).map BitVec.toNat).sum = 40 * (g.tShort.toNat + g.tLong.toNat) ∧
      ((train g w).map BitVec.toNat).sum =
        g.tPreamble.toNat + g.tSync.toNat + 40 * (g.tShort.toNat + g.tLong.toNat) + g.tGap.toNat ∧
      ((((train State.reset.cfg w).drop 2).take 80).map BitVec.toNat).sum = 60680 ∧
      ((train State.reset.cfg w).map BitVec.toNat).sum = 70780 ∧
      ∀ k : Nat, k ≤ 82 → (trainPortWord g w k).getLsbD 16 = decide (k = 82)

/-- 44_framecodec_encode.md R200: the durations a FENC sends, pushed into an RXBURST of a loop-compatible
configuration with `last` on the 83rd, give the payload back with its checksum, valid, the GAP seen; the reset
configuration is one. -/
def Obligations.SentFrameIsReceivedUnchanged : Prop :=
  LoopCompatible State.reset.cfg ∧
  ∀ (s : State) (r : RemoteId) (h c : Nibble), s.rx.phase = .idle → LoopCompatible s.cfg →
    rxDecode s.cfg (train s.cfg (frameWord s.cfg r h c)) =
      .ok
        ({ remote := r, channel := h, command := c, check := checksum s.cfg r h c
           expected := checksum s.cfg r h c, valid := true }, true) ∧
    ∃ e : RxEngine, e.phase = .idle ∧
      execAll (.rxburst :: burstOf (train s.cfg (frameWord s.cfg r h c))) s =
        .next
          (((s.withRx e).withRxRes
              { ok := true, err := .noError, ckValid := true, gapSeen := true, remote := r, channel := h
                command := c, checksum := checksum s.cfg r h c, expected := checksum s.cfg r h c
                bits := r ++ h ++ c ++ checksum s.cfg r h c }).withFlags
            { s.flags with rxDone := true })

/-- 00_scope.md R8: a pushed sample and a popped pulse may come in either order; neither engine sees the other. The
host's list of events and of values read is the model's choice (log entries 1, 2). -/
def Obligations.PushAndPopCommute : Prop :=
  ∀ (s : State) (v : Nat),
    Host.Core.run Sys2Proof.core 2 (lineUp [.regWrite 0x30 v, .regRead 0x31] s) =
      Host.Core.run Sys2Proof.core 2 (lineUp [.regRead 0x31, .regWrite 0x30 v] s)

/-! ### Invariants -/

/-- The reset state meets the invariant (10_state.md R43, R44). -/
def Obligations.ResetMeetsTheInvariant : Prop := BlockInv State.reset

/-- 10_state.md R43: every step from a state that meets the invariant leads to one that does. -/
def Obligations.EveryStepKeepsTheInvariant : Prop :=
  ∀ s t : State, BlockInv s → step s = .next t → BlockInv t

/-- 10_state.md R43, item 11: configuration registers change only by an accepted write to one of them and by reset,
never while an engine is busy. The host's list of events and of values read is the model's choice (log entries 1,
2). -/
def Obligations.ConfigurationChangesOnlyWhenWrittenOrReset : Prop :=
  ∀ (s t : State), step s = .next t → t.cfg ≠ s.cfg →
    ∃ rest : List HostEvent,
      s.host.pending = .reset :: rest ∨
        ∃ (r : Reg) (v : Nat), s.host.pending = .regWrite r.num v :: rest ∧ r.isConfig = true ∧
          s.rx.phase = .idle ∧ s.flags.txBusy = false
end

