-- ==== Sys2Proof/Laws/Decode.lean ====
section
/-! SUPPORT. Small facts about codes, pairs and frame bits. -/

set_option Elab.async false

namespace Sys2Proof

@[simp] theorem catDecode_code (c : Category) : catDecode c.code = c := by cases c <;> rfl

theorem code_catDecode_le (x : BitVec 3) : (catDecode x).code.toNat ≤ 4 := by
  cases catDecode x <;> decide

@[simp] theorem catOfWord_word (c : Category) : catOfWord c.word = c := by cases c <;> rfl

theorem pairBit_isSome_iff (a b : Category) : (pairBit a b).isSome = isDataPair a b := by
  cases a <;> cases b <;> rfl

@[simp] theorem pairBit_gap_left (b : Category) : pairBit .gap b = none := by cases b <;> rfl

@[simp] theorem pairBit_gap_right (a : Category) : pairBit a .gap = none := by cases a <;> rfl

@[simp] theorem frameBits_length (w : FrameWord) : (frameBits w).length = 40 := by simp [frameBits]

theorem shiftIn_toNat (sr : FrameWord) (b : Bool) : (shiftIn sr b).toNat = (2 * sr.toNat + b.toNat) % 2 ^ 40 := by
  unfold shiftIn
  rw [BitVec.toNat_setWidth, BitVec.toNat_append, BitVec.toNat_ofBool, Nat.shiftLeft_eq]
  have h : sr.toNat * 2 ^ 1 ||| b.toNat = 2 ^ 1 * sr.toNat + b.toNat := by
    rw [Nat.mul_comm, Nat.two_pow_add_eq_or_of_lt]
    cases b <;> decide
  rw [h, Nat.pow_one]

@[simp] theorem regOfNum_num (r : Reg) : regOfNum r.num = some r := by cases r <;> rfl

/-! ### The fields of a frame word -/

@[simp] theorem wordRemote_frameOf (r : RemoteId) (h c : Nibble) (k : CheckByte) :
    wordRemote (frameOf r h c k) = r := by
  apply BitVec.eq_of_getLsbD_eq
  intro i hi
  unfold wordRemote frameOf
  rw [BitVec.getLsbD_extractLsb', BitVec.getLsbD_append, BitVec.getLsbD_append, BitVec.getLsbD_append]
  simp [hi]
  grind

@[simp] theorem wordChannel_frameOf (r : RemoteId) (h c : Nibble) (k : CheckByte) :
    wordChannel (frameOf r h c k) = h := by
  apply BitVec.eq_of_getLsbD_eq
  intro i hi
  unfold wordChannel frameOf
  rw [BitVec.getLsbD_extractLsb', BitVec.getLsbD_append, BitVec.getLsbD_append, BitVec.getLsbD_append]
  simp [hi]
  grind

@[simp] theorem wordCommand_frameOf (r : RemoteId) (h c : Nibble) (k : CheckByte) :
    wordCommand (frameOf r h c k) = c := by
  apply BitVec.eq_of_getLsbD_eq
  intro i hi
  unfold wordCommand frameOf
  rw [BitVec.getLsbD_extractLsb', BitVec.getLsbD_append, BitVec.getLsbD_append]
  simp [hi]

@[simp] theorem wordCheck_frameOf (r : RemoteId) (h c : Nibble) (k : CheckByte) :
    wordCheck (frameOf r h c k) = k := by
  apply BitVec.eq_of_getLsbD_eq
  intro i hi
  unfold wordCheck frameOf
  rw [BitVec.getLsbD_extractLsb', BitVec.getLsbD_append]
  simp [hi]

theorem frameOf_fields (w : FrameWord) :
    frameOf (wordRemote w) (wordChannel w) (wordCommand w) (wordCheck w) = w := by
  apply BitVec.eq_of_getLsbD_eq
  intro i hi
  unfold frameOf wordRemote wordChannel wordCommand wordCheck
  rw [BitVec.getLsbD_append, BitVec.getLsbD_append, BitVec.getLsbD_append]
  simp only [BitVec.getLsbD_extractLsb']
  grind

end Sys2Proof
end

