-- ==== Sys2Proof/Laws/State.lean ====
section
/-! SUPPORT. One lemma per field per update of State, so that no later proof unfolds a record update. -/

set_option Elab.async false

namespace Sys2Proof.Machine

/-! ### withCfg -/

@[simp] theorem State.withCfg_cfg (s : State) (x : CfgRegs) : (s.withCfg x).cfg = x := rfl
@[simp] theorem State.withCfg_opr (s : State) (x : CfgRegs) : (s.withCfg x).opr = s.opr := rfl
@[simp] theorem State.withCfg_flags (s : State) (x : CfgRegs) : (s.withCfg x).flags = s.flags := rfl
@[simp] theorem State.withCfg_resCat (s : State) (x : CfgRegs) : (s.withCfg x).resCat = s.resCat := rfl
@[simp] theorem State.withCfg_resCk (s : State) (x : CfgRegs) : (s.withCfg x).resCk = s.resCk := rfl
@[simp] theorem State.withCfg_rxRes (s : State) (x : CfgRegs) : (s.withCfg x).rxRes = s.rxRes := rfl
@[simp] theorem State.withCfg_rx (s : State) (x : CfgRegs) : (s.withCfg x).rx = s.rx := rfl
@[simp] theorem State.withCfg_tx (s : State) (x : CfgRegs) : (s.withCfg x).tx = s.tx := rfl
@[simp] theorem State.withCfg_host (s : State) (x : CfgRegs) : (s.withCfg x).host = s.host := rfl
@[simp] theorem State.withCfg_withCfg (s : State) (x y : CfgRegs) : (s.withCfg x).withCfg y = s.withCfg y := rfl
@[simp] theorem State.withCfg_self (s : State) : s.withCfg s.cfg = s := rfl

/-! ### withOpr -/

@[simp] theorem State.withOpr_cfg (s : State) (x : OperandRegs) : (s.withOpr x).cfg = s.cfg := rfl
@[simp] theorem State.withOpr_opr (s : State) (x : OperandRegs) : (s.withOpr x).opr = x := rfl
@[simp] theorem State.withOpr_flags (s : State) (x : OperandRegs) : (s.withOpr x).flags = s.flags := rfl
@[simp] theorem State.withOpr_resCat (s : State) (x : OperandRegs) : (s.withOpr x).resCat = s.resCat := rfl
@[simp] theorem State.withOpr_resCk (s : State) (x : OperandRegs) : (s.withOpr x).resCk = s.resCk := rfl
@[simp] theorem State.withOpr_rxRes (s : State) (x : OperandRegs) : (s.withOpr x).rxRes = s.rxRes := rfl
@[simp] theorem State.withOpr_rx (s : State) (x : OperandRegs) : (s.withOpr x).rx = s.rx := rfl
@[simp] theorem State.withOpr_tx (s : State) (x : OperandRegs) : (s.withOpr x).tx = s.tx := rfl
@[simp] theorem State.withOpr_host (s : State) (x : OperandRegs) : (s.withOpr x).host = s.host := rfl
@[simp] theorem State.withOpr_withOpr (s : State) (x y : OperandRegs) : (s.withOpr x).withOpr y = s.withOpr y := rfl
@[simp] theorem State.withOpr_self (s : State) : s.withOpr s.opr = s := rfl

/-! ### withFlags -/

@[simp] theorem State.withFlags_cfg (s : State) (x : StatusBits) : (s.withFlags x).cfg = s.cfg := rfl
@[simp] theorem State.withFlags_opr (s : State) (x : StatusBits) : (s.withFlags x).opr = s.opr := rfl
@[simp] theorem State.withFlags_flags (s : State) (x : StatusBits) : (s.withFlags x).flags = x := rfl
@[simp] theorem State.withFlags_resCat (s : State) (x : StatusBits) : (s.withFlags x).resCat = s.resCat := rfl
@[simp] theorem State.withFlags_resCk (s : State) (x : StatusBits) : (s.withFlags x).resCk = s.resCk := rfl
@[simp] theorem State.withFlags_rxRes (s : State) (x : StatusBits) : (s.withFlags x).rxRes = s.rxRes := rfl
@[simp] theorem State.withFlags_rx (s : State) (x : StatusBits) : (s.withFlags x).rx = s.rx := rfl
@[simp] theorem State.withFlags_tx (s : State) (x : StatusBits) : (s.withFlags x).tx = s.tx := rfl
@[simp] theorem State.withFlags_host (s : State) (x : StatusBits) : (s.withFlags x).host = s.host := rfl
@[simp] theorem State.withFlags_withFlags (s : State) (x y : StatusBits) : (s.withFlags x).withFlags y = s.withFlags y := rfl
@[simp] theorem State.withFlags_self (s : State) : s.withFlags s.flags = s := rfl

/-! ### withResCat -/

@[simp] theorem State.withResCat_cfg (s : State) (x : BitVec 3) : (s.withResCat x).cfg = s.cfg := rfl
@[simp] theorem State.withResCat_opr (s : State) (x : BitVec 3) : (s.withResCat x).opr = s.opr := rfl
@[simp] theorem State.withResCat_flags (s : State) (x : BitVec 3) : (s.withResCat x).flags = s.flags := rfl
@[simp] theorem State.withResCat_resCat (s : State) (x : BitVec 3) : (s.withResCat x).resCat = x := rfl
@[simp] theorem State.withResCat_resCk (s : State) (x : BitVec 3) : (s.withResCat x).resCk = s.resCk := rfl
@[simp] theorem State.withResCat_rxRes (s : State) (x : BitVec 3) : (s.withResCat x).rxRes = s.rxRes := rfl
@[simp] theorem State.withResCat_rx (s : State) (x : BitVec 3) : (s.withResCat x).rx = s.rx := rfl
@[simp] theorem State.withResCat_tx (s : State) (x : BitVec 3) : (s.withResCat x).tx = s.tx := rfl
@[simp] theorem State.withResCat_host (s : State) (x : BitVec 3) : (s.withResCat x).host = s.host := rfl
@[simp] theorem State.withResCat_withResCat (s : State) (x y : BitVec 3) : (s.withResCat x).withResCat y = s.withResCat y := rfl
@[simp] theorem State.withResCat_self (s : State) : s.withResCat s.resCat = s := rfl

/-! ### withResCk -/

@[simp] theorem State.withResCk_cfg (s : State) (x : BitVec 8) : (s.withResCk x).cfg = s.cfg := rfl
@[simp] theorem State.withResCk_opr (s : State) (x : BitVec 8) : (s.withResCk x).opr = s.opr := rfl
@[simp] theorem State.withResCk_flags (s : State) (x : BitVec 8) : (s.withResCk x).flags = s.flags := rfl
@[simp] theorem State.withResCk_resCat (s : State) (x : BitVec 8) : (s.withResCk x).resCat = s.resCat := rfl
@[simp] theorem State.withResCk_resCk (s : State) (x : BitVec 8) : (s.withResCk x).resCk = x := rfl
@[simp] theorem State.withResCk_rxRes (s : State) (x : BitVec 8) : (s.withResCk x).rxRes = s.rxRes := rfl
@[simp] theorem State.withResCk_rx (s : State) (x : BitVec 8) : (s.withResCk x).rx = s.rx := rfl
@[simp] theorem State.withResCk_tx (s : State) (x : BitVec 8) : (s.withResCk x).tx = s.tx := rfl
@[simp] theorem State.withResCk_host (s : State) (x : BitVec 8) : (s.withResCk x).host = s.host := rfl
@[simp] theorem State.withResCk_withResCk (s : State) (x y : BitVec 8) : (s.withResCk x).withResCk y = s.withResCk y := rfl
@[simp] theorem State.withResCk_self (s : State) : s.withResCk s.resCk = s := rfl

/-! ### withRxRes -/

@[simp] theorem State.withRxRes_cfg (s : State) (x : RxResults) : (s.withRxRes x).cfg = s.cfg := rfl
@[simp] theorem State.withRxRes_opr (s : State) (x : RxResults) : (s.withRxRes x).opr = s.opr := rfl
@[simp] theorem State.withRxRes_flags (s : State) (x : RxResults) : (s.withRxRes x).flags = s.flags := rfl
@[simp] theorem State.withRxRes_resCat (s : State) (x : RxResults) : (s.withRxRes x).resCat = s.resCat := rfl
@[simp] theorem State.withRxRes_resCk (s : State) (x : RxResults) : (s.withRxRes x).resCk = s.resCk := rfl
@[simp] theorem State.withRxRes_rxRes (s : State) (x : RxResults) : (s.withRxRes x).rxRes = x := rfl
@[simp] theorem State.withRxRes_rx (s : State) (x : RxResults) : (s.withRxRes x).rx = s.rx := rfl
@[simp] theorem State.withRxRes_tx (s : State) (x : RxResults) : (s.withRxRes x).tx = s.tx := rfl
@[simp] theorem State.withRxRes_host (s : State) (x : RxResults) : (s.withRxRes x).host = s.host := rfl
@[simp] theorem State.withRxRes_withRxRes (s : State) (x y : RxResults) : (s.withRxRes x).withRxRes y = s.withRxRes y := rfl
@[simp] theorem State.withRxRes_self (s : State) : s.withRxRes s.rxRes = s := rfl

/-! ### withRx -/

@[simp] theorem State.withRx_cfg (s : State) (x : RxEngine) : (s.withRx x).cfg = s.cfg := rfl
@[simp] theorem State.withRx_opr (s : State) (x : RxEngine) : (s.withRx x).opr = s.opr := rfl
@[simp] theorem State.withRx_flags (s : State) (x : RxEngine) : (s.withRx x).flags = s.flags := rfl
@[simp] theorem State.withRx_resCat (s : State) (x : RxEngine) : (s.withRx x).resCat = s.resCat := rfl
@[simp] theorem State.withRx_resCk (s : State) (x : RxEngine) : (s.withRx x).resCk = s.resCk := rfl
@[simp] theorem State.withRx_rxRes (s : State) (x : RxEngine) : (s.withRx x).rxRes = s.rxRes := rfl
@[simp] theorem State.withRx_rx (s : State) (x : RxEngine) : (s.withRx x).rx = x := rfl
@[simp] theorem State.withRx_tx (s : State) (x : RxEngine) : (s.withRx x).tx = s.tx := rfl
@[simp] theorem State.withRx_host (s : State) (x : RxEngine) : (s.withRx x).host = s.host := rfl
@[simp] theorem State.withRx_withRx (s : State) (x y : RxEngine) : (s.withRx x).withRx y = s.withRx y := rfl
@[simp] theorem State.withRx_self (s : State) : s.withRx s.rx = s := rfl

/-! ### withTx -/

@[simp] theorem State.withTx_cfg (s : State) (x : TxEngine) : (s.withTx x).cfg = s.cfg := rfl
@[simp] theorem State.withTx_opr (s : State) (x : TxEngine) : (s.withTx x).opr = s.opr := rfl
@[simp] theorem State.withTx_flags (s : State) (x : TxEngine) : (s.withTx x).flags = s.flags := rfl
@[simp] theorem State.withTx_resCat (s : State) (x : TxEngine) : (s.withTx x).resCat = s.resCat := rfl
@[simp] theorem State.withTx_resCk (s : State) (x : TxEngine) : (s.withTx x).resCk = s.resCk := rfl
@[simp] theorem State.withTx_rxRes (s : State) (x : TxEngine) : (s.withTx x).rxRes = s.rxRes := rfl
@[simp] theorem State.withTx_rx (s : State) (x : TxEngine) : (s.withTx x).rx = s.rx := rfl
@[simp] theorem State.withTx_tx (s : State) (x : TxEngine) : (s.withTx x).tx = x := rfl
@[simp] theorem State.withTx_host (s : State) (x : TxEngine) : (s.withTx x).host = s.host := rfl
@[simp] theorem State.withTx_withTx (s : State) (x y : TxEngine) : (s.withTx x).withTx y = s.withTx y := rfl
@[simp] theorem State.withTx_self (s : State) : s.withTx s.tx = s := rfl

/-! ### withHost -/

@[simp] theorem State.withHost_cfg (s : State) (x : HostSide) : (s.withHost x).cfg = s.cfg := rfl
@[simp] theorem State.withHost_opr (s : State) (x : HostSide) : (s.withHost x).opr = s.opr := rfl
@[simp] theorem State.withHost_flags (s : State) (x : HostSide) : (s.withHost x).flags = s.flags := rfl
@[simp] theorem State.withHost_resCat (s : State) (x : HostSide) : (s.withHost x).resCat = s.resCat := rfl
@[simp] theorem State.withHost_resCk (s : State) (x : HostSide) : (s.withHost x).resCk = s.resCk := rfl
@[simp] theorem State.withHost_rxRes (s : State) (x : HostSide) : (s.withHost x).rxRes = s.rxRes := rfl
@[simp] theorem State.withHost_rx (s : State) (x : HostSide) : (s.withHost x).rx = s.rx := rfl
@[simp] theorem State.withHost_tx (s : State) (x : HostSide) : (s.withHost x).tx = s.tx := rfl
@[simp] theorem State.withHost_host (s : State) (x : HostSide) : (s.withHost x).host = x := rfl
@[simp] theorem State.withHost_withHost (s : State) (x y : HostSide) : (s.withHost x).withHost y = s.withHost y := rfl
@[simp] theorem State.withHost_self (s : State) : s.withHost s.host = s := rfl

/-! ### Updates of two parts commute: the host first, the flags last -/

@[simp] theorem State.withCfg_withHost (s : State) (x : CfgRegs) (y : HostSide) :
    (s.withCfg x).withHost y = (s.withHost y).withCfg x := rfl
@[simp] theorem State.withOpr_withHost (s : State) (x : OperandRegs) (y : HostSide) :
    (s.withOpr x).withHost y = (s.withHost y).withOpr x := rfl
@[simp] theorem State.withOpr_withCfg (s : State) (x : OperandRegs) (y : CfgRegs) :
    (s.withOpr x).withCfg y = (s.withCfg y).withOpr x := rfl
@[simp] theorem State.withResCat_withHost (s : State) (x : BitVec 3) (y : HostSide) :
    (s.withResCat x).withHost y = (s.withHost y).withResCat x := rfl
@[simp] theorem State.withResCat_withCfg (s : State) (x : BitVec 3) (y : CfgRegs) :
    (s.withResCat x).withCfg y = (s.withCfg y).withResCat x := rfl
@[simp] theorem State.withResCat_withOpr (s : State) (x : BitVec 3) (y : OperandRegs) :
    (s.withResCat x).withOpr y = (s.withOpr y).withResCat x := rfl
@[simp] theorem State.withResCk_withHost (s : State) (x : BitVec 8) (y : HostSide) :
    (s.withResCk x).withHost y = (s.withHost y).withResCk x := rfl
@[simp] theorem State.withResCk_withCfg (s : State) (x : BitVec 8) (y : CfgRegs) :
    (s.withResCk x).withCfg y = (s.withCfg y).withResCk x := rfl
@[simp] theorem State.withResCk_withOpr (s : State) (x : BitVec 8) (y : OperandRegs) :
    (s.withResCk x).withOpr y = (s.withOpr y).withResCk x := rfl
@[simp] theorem State.withResCk_withResCat (s : State) (x : BitVec 8) (y : BitVec 3) :
    (s.withResCk x).withResCat y = (s.withResCat y).withResCk x := rfl
@[simp] theorem State.withRx_withHost (s : State) (x : RxEngine) (y : HostSide) :
    (s.withRx x).withHost y = (s.withHost y).withRx x := rfl
@[simp] theorem State.withRx_withCfg (s : State) (x : RxEngine) (y : CfgRegs) :
    (s.withRx x).withCfg y = (s.withCfg y).withRx x := rfl
@[simp] theorem State.withRx_withOpr (s : State) (x : RxEngine) (y : OperandRegs) :
    (s.withRx x).withOpr y = (s.withOpr y).withRx x := rfl
@[simp] theorem State.withRx_withResCat (s : State) (x : RxEngine) (y : BitVec 3) :
    (s.withRx x).withResCat y = (s.withResCat y).withRx x := rfl
@[simp] theorem State.withRx_withResCk (s : State) (x : RxEngine) (y : BitVec 8) :
    (s.withRx x).withResCk y = (s.withResCk y).withRx x := rfl
@[simp] theorem State.withRxRes_withHost (s : State) (x : RxResults) (y : HostSide) :
    (s.withRxRes x).withHost y = (s.withHost y).withRxRes x := rfl
@[simp] theorem State.withRxRes_withCfg (s : State) (x : RxResults) (y : CfgRegs) :
    (s.withRxRes x).withCfg y = (s.withCfg y).withRxRes x := rfl
@[simp] theorem State.withRxRes_withOpr (s : State) (x : RxResults) (y : OperandRegs) :
    (s.withRxRes x).withOpr y = (s.withOpr y).withRxRes x := rfl
@[simp] theorem State.withRxRes_withResCat (s : State) (x : RxResults) (y : BitVec 3) :
    (s.withRxRes x).withResCat y = (s.withResCat y).withRxRes x := rfl
@[simp] theorem State.withRxRes_withResCk (s : State) (x : RxResults) (y : BitVec 8) :
    (s.withRxRes x).withResCk y = (s.withResCk y).withRxRes x := rfl
@[simp] theorem State.withRxRes_withRx (s : State) (x : RxResults) (y : RxEngine) :
    (s.withRxRes x).withRx y = (s.withRx y).withRxRes x := rfl
@[simp] theorem State.withTx_withHost (s : State) (x : TxEngine) (y : HostSide) :
    (s.withTx x).withHost y = (s.withHost y).withTx x := rfl
@[simp] theorem State.withTx_withCfg (s : State) (x : TxEngine) (y : CfgRegs) :
    (s.withTx x).withCfg y = (s.withCfg y).withTx x := rfl
@[simp] theorem State.withTx_withOpr (s : State) (x : TxEngine) (y : OperandRegs) :
    (s.withTx x).withOpr y = (s.withOpr y).withTx x := rfl
@[simp] theorem State.withTx_withResCat (s : State) (x : TxEngine) (y : BitVec 3) :
    (s.withTx x).withResCat y = (s.withResCat y).withTx x := rfl
@[simp] theorem State.withTx_withResCk (s : State) (x : TxEngine) (y : BitVec 8) :
    (s.withTx x).withResCk y = (s.withResCk y).withTx x := rfl
@[simp] theorem State.withTx_withRx (s : State) (x : TxEngine) (y : RxEngine) :
    (s.withTx x).withRx y = (s.withRx y).withTx x := rfl
@[simp] theorem State.withTx_withRxRes (s : State) (x : TxEngine) (y : RxResults) :
    (s.withTx x).withRxRes y = (s.withRxRes y).withTx x := rfl
@[simp] theorem State.withFlags_withHost (s : State) (x : StatusBits) (y : HostSide) :
    (s.withFlags x).withHost y = (s.withHost y).withFlags x := rfl
@[simp] theorem State.withFlags_withCfg (s : State) (x : StatusBits) (y : CfgRegs) :
    (s.withFlags x).withCfg y = (s.withCfg y).withFlags x := rfl
@[simp] theorem State.withFlags_withOpr (s : State) (x : StatusBits) (y : OperandRegs) :
    (s.withFlags x).withOpr y = (s.withOpr y).withFlags x := rfl
@[simp] theorem State.withFlags_withResCat (s : State) (x : StatusBits) (y : BitVec 3) :
    (s.withFlags x).withResCat y = (s.withResCat y).withFlags x := rfl
@[simp] theorem State.withFlags_withResCk (s : State) (x : StatusBits) (y : BitVec 8) :
    (s.withFlags x).withResCk y = (s.withResCk y).withFlags x := rfl
@[simp] theorem State.withFlags_withRx (s : State) (x : StatusBits) (y : RxEngine) :
    (s.withFlags x).withRx y = (s.withRx y).withFlags x := rfl
@[simp] theorem State.withFlags_withRxRes (s : State) (x : StatusBits) (y : RxResults) :
    (s.withFlags x).withRxRes y = (s.withRxRes y).withFlags x := rfl
@[simp] theorem State.withFlags_withTx (s : State) (x : StatusBits) (y : TxEngine) :
    (s.withFlags x).withTx y = (s.withTx y).withFlags x := rfl

/-! ### A state is its parts -/

theorem State.eq_of_parts {s t : State} (h1 : s.cfg = t.cfg) (h2 : s.opr = t.opr) (h3 : s.flags = t.flags)
    (h4 : s.resCat = t.resCat) (h5 : s.resCk = t.resCk) (h6 : s.rxRes = t.rxRes) (h7 : s.rx = t.rx)
    (h8 : s.tx = t.tx) (h9 : s.host = t.host) : s = t := by
  cases s
  cases t
  simp_all

end Sys2Proof.Machine
end

