-- ==== Sys2Proof/Laws/Flags.lean ====
section
/-! SUPPORT. The bits of STATUS and RX_STATUS (10_state.md R27, R29). -/

set_option Elab.async false

namespace Sys2Proof.Machine

theorem statusWord_bits (s : State) :
    s.statusWord.getLsbD 0 = s.rxBusy ∧ s.statusWord.getLsbD 1 = s.flags.txBusy ∧
      s.statusWord.getLsbD 2 = s.flags.rxDone ∧ s.statusWord.getLsbD 3 = s.flags.txDone ∧
      s.statusWord.getLsbD 4 = s.flags.illOp ∧ s.statusWord.getLsbD 5 = s.flags.busyErr ∧
      s.statusWord.getLsbD 6 = s.flags.rxOvr ∧ s.statusWord.getLsbD 7 = s.flags.txUdr := by
  unfold State.statusWord
  generalize s.rxBusy = b0
  generalize s.flags.txBusy = b1
  generalize s.flags.rxDone = b2
  generalize s.flags.txDone = b3
  generalize s.flags.illOp = b4
  generalize s.flags.busyErr = b5
  generalize s.flags.rxOvr = b6
  generalize s.flags.txUdr = b7
  revert b0 b1 b2 b3 b4 b5 b6 b7
  decide

theorem rxStatusWord_bits (x : RxResults) :
    x.statusWord.getLsbD 0 = x.ok ∧ x.statusWord.extractLsb' 1 2 = x.err.code ∧
      x.statusWord.getLsbD 3 = x.ckValid ∧ x.statusWord.getLsbD 4 = x.gapSeen := by
  unfold RxResults.statusWord
  generalize x.ok = b0
  generalize x.ckValid = b3
  generalize x.gapSeen = b4
  cases x.err <;> revert b0 b3 b4 <;> decide

end Sys2Proof.Machine
end

