-- ==== Sys2Proof/Laws/Frames.lean ====
section
/-! SUPPORT. What each shared operation leaves unchanged, one lemma per field. -/

set_option Elab.async false

namespace Sys2Proof.Machine

/-! ### Flags -/

@[simp] theorem setIllOp_cfg (s : State) : (setIllOp s).cfg = s.cfg := rfl
@[simp] theorem setIllOp_opr (s : State) : (setIllOp s).opr = s.opr := rfl
@[simp] theorem setIllOp_resCat (s : State) : (setIllOp s).resCat = s.resCat := rfl
@[simp] theorem setIllOp_resCk (s : State) : (setIllOp s).resCk = s.resCk := rfl
@[simp] theorem setIllOp_rxRes (s : State) : (setIllOp s).rxRes = s.rxRes := rfl
@[simp] theorem setIllOp_rx (s : State) : (setIllOp s).rx = s.rx := rfl
@[simp] theorem setIllOp_tx (s : State) : (setIllOp s).tx = s.tx := rfl
@[simp] theorem setIllOp_host (s : State) : (setIllOp s).host = s.host := rfl

@[simp] theorem setBusyErr_cfg (s : State) : (setBusyErr s).cfg = s.cfg := rfl
@[simp] theorem setBusyErr_opr (s : State) : (setBusyErr s).opr = s.opr := rfl
@[simp] theorem setBusyErr_resCat (s : State) : (setBusyErr s).resCat = s.resCat := rfl
@[simp] theorem setBusyErr_resCk (s : State) : (setBusyErr s).resCk = s.resCk := rfl
@[simp] theorem setBusyErr_rxRes (s : State) : (setBusyErr s).rxRes = s.rxRes := rfl
@[simp] theorem setBusyErr_rx (s : State) : (setBusyErr s).rx = s.rx := rfl
@[simp] theorem setBusyErr_tx (s : State) : (setBusyErr s).tx = s.tx := rfl
@[simp] theorem setBusyErr_host (s : State) : (setBusyErr s).host = s.host := rfl

@[simp] theorem setRxOvr_cfg (s : State) : (setRxOvr s).cfg = s.cfg := rfl
@[simp] theorem setRxOvr_opr (s : State) : (setRxOvr s).opr = s.opr := rfl
@[simp] theorem setRxOvr_resCat (s : State) : (setRxOvr s).resCat = s.resCat := rfl
@[simp] theorem setRxOvr_resCk (s : State) : (setRxOvr s).resCk = s.resCk := rfl
@[simp] theorem setRxOvr_rxRes (s : State) : (setRxOvr s).rxRes = s.rxRes := rfl
@[simp] theorem setRxOvr_rx (s : State) : (setRxOvr s).rx = s.rx := rfl
@[simp] theorem setRxOvr_tx (s : State) : (setRxOvr s).tx = s.tx := rfl
@[simp] theorem setRxOvr_host (s : State) : (setRxOvr s).host = s.host := rfl

@[simp] theorem setTxUdr_cfg (s : State) : (setTxUdr s).cfg = s.cfg := rfl
@[simp] theorem setTxUdr_opr (s : State) : (setTxUdr s).opr = s.opr := rfl
@[simp] theorem setTxUdr_resCat (s : State) : (setTxUdr s).resCat = s.resCat := rfl
@[simp] theorem setTxUdr_resCk (s : State) : (setTxUdr s).resCk = s.resCk := rfl
@[simp] theorem setTxUdr_rxRes (s : State) : (setTxUdr s).rxRes = s.rxRes := rfl
@[simp] theorem setTxUdr_rx (s : State) : (setTxUdr s).rx = s.rx := rfl
@[simp] theorem setTxUdr_tx (s : State) : (setTxUdr s).tx = s.tx := rfl
@[simp] theorem setTxUdr_host (s : State) : (setTxUdr s).host = s.host := rfl

@[simp] theorem clearSticky_cfg (v : Nat) (s : State) : (clearSticky v s).cfg = s.cfg := rfl
@[simp] theorem clearSticky_opr (v : Nat) (s : State) : (clearSticky v s).opr = s.opr := rfl
@[simp] theorem clearSticky_resCat (v : Nat) (s : State) : (clearSticky v s).resCat = s.resCat := rfl
@[simp] theorem clearSticky_resCk (v : Nat) (s : State) : (clearSticky v s).resCk = s.resCk := rfl
@[simp] theorem clearSticky_rxRes (v : Nat) (s : State) : (clearSticky v s).rxRes = s.rxRes := rfl
@[simp] theorem clearSticky_rx (v : Nat) (s : State) : (clearSticky v s).rx = s.rx := rfl
@[simp] theorem clearSticky_tx (v : Nat) (s : State) : (clearSticky v s).tx = s.tx := rfl
@[simp] theorem clearSticky_host (v : Nat) (s : State) : (clearSticky v s).host = s.host := rfl

/-! ### Raising an error and arming -/

@[simp] theorem raiseErr_cfg (e : ErrCode) (s : State) : (raiseErr e s).cfg = s.cfg := rfl
@[simp] theorem raiseErr_opr (e : ErrCode) (s : State) : (raiseErr e s).opr = s.opr := rfl
@[simp] theorem raiseErr_flags (e : ErrCode) (s : State) : (raiseErr e s).flags = s.flags := rfl
@[simp] theorem raiseErr_resCat (e : ErrCode) (s : State) : (raiseErr e s).resCat = s.resCat := rfl
@[simp] theorem raiseErr_resCk (e : ErrCode) (s : State) : (raiseErr e s).resCk = s.resCk := rfl
@[simp] theorem raiseErr_rxRes (e : ErrCode) (s : State) : (raiseErr e s).rxRes = s.rxRes := rfl
@[simp] theorem raiseErr_tx (e : ErrCode) (s : State) : (raiseErr e s).tx = s.tx := rfl
@[simp] theorem raiseErr_host (e : ErrCode) (s : State) : (raiseErr e s).host = s.host := rfl

@[simp] theorem recordErr_cfg (e : ErrCode) (s : State) : (recordErr e s).cfg = s.cfg := rfl
@[simp] theorem recordErr_opr (e : ErrCode) (s : State) : (recordErr e s).opr = s.opr := rfl
@[simp] theorem recordErr_flags (e : ErrCode) (s : State) : (recordErr e s).flags = s.flags := rfl
@[simp] theorem recordErr_resCat (e : ErrCode) (s : State) : (recordErr e s).resCat = s.resCat := rfl
@[simp] theorem recordErr_resCk (e : ErrCode) (s : State) : (recordErr e s).resCk = s.resCk := rfl
@[simp] theorem recordErr_rxRes (e : ErrCode) (s : State) : (recordErr e s).rxRes = s.rxRes := rfl
@[simp] theorem recordErr_tx (e : ErrCode) (s : State) : (recordErr e s).tx = s.tx := rfl
@[simp] theorem recordErr_host (e : ErrCode) (s : State) : (recordErr e s).host = s.host := rfl

@[simp] theorem armRx_cfg (m : RxMode) (p : RxPhase) (s : State) : (armRx m p s).cfg = s.cfg := rfl
@[simp] theorem armRx_opr (m : RxMode) (p : RxPhase) (s : State) : (armRx m p s).opr = s.opr := rfl
@[simp] theorem armRx_resCat (m : RxMode) (p : RxPhase) (s : State) : (armRx m p s).resCat = s.resCat := rfl
@[simp] theorem armRx_resCk (m : RxMode) (p : RxPhase) (s : State) : (armRx m p s).resCk = s.resCk := rfl
@[simp] theorem armRx_tx (m : RxMode) (p : RxPhase) (s : State) : (armRx m p s).tx = s.tx := rfl
@[simp] theorem armRx_host (m : RxMode) (p : RxPhase) (s : State) : (armRx m p s).host = s.host := rfl

@[simp] theorem startRx_cfg (m : RxMode) (p : RxPhase) (s : State) : (startRx m p s).cfg = s.cfg := by unfold startRx; split <;> rfl
@[simp] theorem startRx_opr (m : RxMode) (p : RxPhase) (s : State) : (startRx m p s).opr = s.opr := by unfold startRx; split <;> rfl
@[simp] theorem startRx_resCat (m : RxMode) (p : RxPhase) (s : State) : (startRx m p s).resCat = s.resCat := by unfold startRx; split <;> rfl
@[simp] theorem startRx_resCk (m : RxMode) (p : RxPhase) (s : State) : (startRx m p s).resCk = s.resCk := by unfold startRx; split <;> rfl
@[simp] theorem startRx_tx (m : RxMode) (p : RxPhase) (s : State) : (startRx m p s).tx = s.tx := by unfold startRx; split <;> rfl
@[simp] theorem startRx_host (m : RxMode) (p : RxPhase) (s : State) : (startRx m p s).host = s.host := by unfold startRx; split <;> rfl

/-! ### The RX sequencer changes the RX engine alone -/

@[simp] theorem stepHunt_cfg (c : Category) (s : State) : (stepHunt c s).cfg = s.cfg := by unfold stepHunt; split <;> rfl
@[simp] theorem stepHunt_opr (c : Category) (s : State) : (stepHunt c s).opr = s.opr := by unfold stepHunt; split <;> rfl
@[simp] theorem stepHunt_flags (c : Category) (s : State) : (stepHunt c s).flags = s.flags := by unfold stepHunt; split <;> rfl
@[simp] theorem stepHunt_resCat (c : Category) (s : State) : (stepHunt c s).resCat = s.resCat := by unfold stepHunt; split <;> rfl
@[simp] theorem stepHunt_resCk (c : Category) (s : State) : (stepHunt c s).resCk = s.resCk := by unfold stepHunt; split <;> rfl
@[simp] theorem stepHunt_rxRes (c : Category) (s : State) : (stepHunt c s).rxRes = s.rxRes := by unfold stepHunt; split <;> rfl
@[simp] theorem stepHunt_tx (c : Category) (s : State) : (stepHunt c s).tx = s.tx := by unfold stepHunt; split <;> rfl
@[simp] theorem stepHunt_host (c : Category) (s : State) : (stepHunt c s).host = s.host := by unfold stepHunt; split <;> rfl

@[simp] theorem stepFirst_cfg (c : Category) (s : State) : (stepFirst c s).cfg = s.cfg := rfl
@[simp] theorem stepFirst_opr (c : Category) (s : State) : (stepFirst c s).opr = s.opr := rfl
@[simp] theorem stepFirst_flags (c : Category) (s : State) : (stepFirst c s).flags = s.flags := rfl
@[simp] theorem stepFirst_resCat (c : Category) (s : State) : (stepFirst c s).resCat = s.resCat := rfl
@[simp] theorem stepFirst_resCk (c : Category) (s : State) : (stepFirst c s).resCk = s.resCk := rfl
@[simp] theorem stepFirst_rxRes (c : Category) (s : State) : (stepFirst c s).rxRes = s.rxRes := rfl
@[simp] theorem stepFirst_tx (c : Category) (s : State) : (stepFirst c s).tx = s.tx := rfl
@[simp] theorem stepFirst_host (c : Category) (s : State) : (stepFirst c s).host = s.host := rfl

@[simp] theorem collectBit_cfg (b : Bool) (s : State) : (collectBit b s).cfg = s.cfg := rfl
@[simp] theorem collectBit_opr (b : Bool) (s : State) : (collectBit b s).opr = s.opr := rfl
@[simp] theorem collectBit_flags (b : Bool) (s : State) : (collectBit b s).flags = s.flags := rfl
@[simp] theorem collectBit_resCat (b : Bool) (s : State) : (collectBit b s).resCat = s.resCat := rfl
@[simp] theorem collectBit_resCk (b : Bool) (s : State) : (collectBit b s).resCk = s.resCk := rfl
@[simp] theorem collectBit_rxRes (b : Bool) (s : State) : (collectBit b s).rxRes = s.rxRes := rfl
@[simp] theorem collectBit_tx (b : Bool) (s : State) : (collectBit b s).tx = s.tx := rfl
@[simp] theorem collectBit_host (b : Bool) (s : State) : (collectBit b s).host = s.host := rfl

@[simp] theorem stepSecond_cfg (c : Category) (s : State) : (stepSecond c s).cfg = s.cfg := by unfold stepSecond; split <;> rfl
@[simp] theorem stepSecond_opr (c : Category) (s : State) : (stepSecond c s).opr = s.opr := by unfold stepSecond; split <;> rfl
@[simp] theorem stepSecond_flags (c : Category) (s : State) : (stepSecond c s).flags = s.flags := by unfold stepSecond; split <;> rfl
@[simp] theorem stepSecond_resCat (c : Category) (s : State) : (stepSecond c s).resCat = s.resCat := by unfold stepSecond; split <;> rfl
@[simp] theorem stepSecond_resCk (c : Category) (s : State) : (stepSecond c s).resCk = s.resCk := by unfold stepSecond; split <;> rfl
@[simp] theorem stepSecond_rxRes (c : Category) (s : State) : (stepSecond c s).rxRes = s.rxRes := by unfold stepSecond; split <;> rfl
@[simp] theorem stepSecond_tx (c : Category) (s : State) : (stepSecond c s).tx = s.tx := by unfold stepSecond; split <;> rfl
@[simp] theorem stepSecond_host (c : Category) (s : State) : (stepSecond c s).host = s.host := by unfold stepSecond; split <;> rfl

@[simp] theorem stepData_cfg (c : Category) (s : State) : (stepData c s).cfg = s.cfg := by unfold stepData; split <;> [rfl; (split <;> simp)]
@[simp] theorem stepData_opr (c : Category) (s : State) : (stepData c s).opr = s.opr := by unfold stepData; split <;> [rfl; (split <;> simp)]
@[simp] theorem stepData_flags (c : Category) (s : State) : (stepData c s).flags = s.flags := by unfold stepData; split <;> [rfl; (split <;> simp)]
@[simp] theorem stepData_resCat (c : Category) (s : State) : (stepData c s).resCat = s.resCat := by unfold stepData; split <;> [rfl; (split <;> simp)]
@[simp] theorem stepData_resCk (c : Category) (s : State) : (stepData c s).resCk = s.resCk := by unfold stepData; split <;> [rfl; (split <;> simp)]
@[simp] theorem stepData_rxRes (c : Category) (s : State) : (stepData c s).rxRes = s.rxRes := by unfold stepData; split <;> [rfl; (split <;> simp)]
@[simp] theorem stepData_tx (c : Category) (s : State) : (stepData c s).tx = s.tx := by unfold stepData; split <;> [rfl; (split <;> simp)]
@[simp] theorem stepData_host (c : Category) (s : State) : (stepData c s).host = s.host := by unfold stepData; split <;> [rfl; (split <;> simp)]

@[simp] theorem stepTail_cfg (c : Category) (s : State) : (stepTail c s).cfg = s.cfg := by unfold stepTail; split <;> rfl
@[simp] theorem stepTail_opr (c : Category) (s : State) : (stepTail c s).opr = s.opr := by unfold stepTail; split <;> rfl
@[simp] theorem stepTail_flags (c : Category) (s : State) : (stepTail c s).flags = s.flags := by unfold stepTail; split <;> rfl
@[simp] theorem stepTail_resCat (c : Category) (s : State) : (stepTail c s).resCat = s.resCat := by unfold stepTail; split <;> rfl
@[simp] theorem stepTail_resCk (c : Category) (s : State) : (stepTail c s).resCk = s.resCk := by unfold stepTail; split <;> rfl
@[simp] theorem stepTail_rxRes (c : Category) (s : State) : (stepTail c s).rxRes = s.rxRes := by unfold stepTail; split <;> rfl
@[simp] theorem stepTail_tx (c : Category) (s : State) : (stepTail c s).tx = s.tx := by unfold stepTail; split <;> rfl
@[simp] theorem stepTail_host (c : Category) (s : State) : (stepTail c s).host = s.host := by unfold stepTail; split <;> rfl

@[simp] theorem stepCategory_cfg (c : Category) (s : State) : (stepCategory c s).cfg = s.cfg := by unfold stepCategory; split <;> simp
@[simp] theorem stepCategory_opr (c : Category) (s : State) : (stepCategory c s).opr = s.opr := by unfold stepCategory; split <;> simp
@[simp] theorem stepCategory_flags (c : Category) (s : State) : (stepCategory c s).flags = s.flags := by unfold stepCategory; split <;> simp
@[simp] theorem stepCategory_resCat (c : Category) (s : State) : (stepCategory c s).resCat = s.resCat := by unfold stepCategory; split <;> simp
@[simp] theorem stepCategory_resCk (c : Category) (s : State) : (stepCategory c s).resCk = s.resCk := by unfold stepCategory; split <;> simp
@[simp] theorem stepCategory_rxRes (c : Category) (s : State) : (stepCategory c s).rxRes = s.rxRes := by unfold stepCategory; split <;> simp
@[simp] theorem stepCategory_tx (c : Category) (s : State) : (stepCategory c s).tx = s.tx := by unfold stepCategory; split <;> simp
@[simp] theorem stepCategory_host (c : Category) (s : State) : (stepCategory c s).host = s.host := by unfold stepCategory; split <;> simp

@[simp] theorem stepBits_cfg (b : Bool) (s : State) : (stepBits b s).cfg = s.cfg := rfl
@[simp] theorem stepBits_opr (b : Bool) (s : State) : (stepBits b s).opr = s.opr := rfl
@[simp] theorem stepBits_flags (b : Bool) (s : State) : (stepBits b s).flags = s.flags := rfl
@[simp] theorem stepBits_resCat (b : Bool) (s : State) : (stepBits b s).resCat = s.resCat := rfl
@[simp] theorem stepBits_resCk (b : Bool) (s : State) : (stepBits b s).resCk = s.resCk := rfl
@[simp] theorem stepBits_rxRes (b : Bool) (s : State) : (stepBits b s).rxRes = s.rxRes := rfl
@[simp] theorem stepBits_tx (b : Bool) (s : State) : (stepBits b s).tx = s.tx := rfl
@[simp] theorem stepBits_host (b : Bool) (s : State) : (stepBits b s).host = s.host := rfl

@[simp] theorem stepBit_cfg (b : Bool) (s : State) : (stepBit b s).cfg = s.cfg := by unfold stepBit; split <;> simp
@[simp] theorem stepBit_opr (b : Bool) (s : State) : (stepBit b s).opr = s.opr := by unfold stepBit; split <;> simp
@[simp] theorem stepBit_flags (b : Bool) (s : State) : (stepBit b s).flags = s.flags := by unfold stepBit; split <;> simp
@[simp] theorem stepBit_resCat (b : Bool) (s : State) : (stepBit b s).resCat = s.resCat := by unfold stepBit; split <;> simp
@[simp] theorem stepBit_resCk (b : Bool) (s : State) : (stepBit b s).resCk = s.resCk := by unfold stepBit; split <;> simp
@[simp] theorem stepBit_rxRes (b : Bool) (s : State) : (stepBit b s).rxRes = s.rxRes := by unfold stepBit; split <;> simp
@[simp] theorem stepBit_tx (b : Bool) (s : State) : (stepBit b s).tx = s.tx := by unfold stepBit; split <;> simp
@[simp] theorem stepBit_host (b : Bool) (s : State) : (stepBit b s).host = s.host := by unfold stepBit; split <;> simp

@[simp] theorem stepSample_cfg (v : Duration) (s : State) : (stepSample v s).cfg = s.cfg := by unfold stepSample; split <;> simp
@[simp] theorem stepSample_opr (v : Duration) (s : State) : (stepSample v s).opr = s.opr := by unfold stepSample; split <;> simp
@[simp] theorem stepSample_flags (v : Duration) (s : State) : (stepSample v s).flags = s.flags := by unfold stepSample; split <;> simp
@[simp] theorem stepSample_resCat (v : Duration) (s : State) : (stepSample v s).resCat = s.resCat := by unfold stepSample; split <;> simp
@[simp] theorem stepSample_resCk (v : Duration) (s : State) : (stepSample v s).resCk = s.resCk := by unfold stepSample; split <;> simp
@[simp] theorem stepSample_rxRes (v : Duration) (s : State) : (stepSample v s).rxRes = s.rxRes := by unfold stepSample; split <;> simp
@[simp] theorem stepSample_tx (v : Duration) (s : State) : (stepSample v s).tx = s.tx := by unfold stepSample; split <;> simp
@[simp] theorem stepSample_host (v : Duration) (s : State) : (stepSample v s).host = s.host := by unfold stepSample; split <;> simp

@[simp] theorem endCheck_cfg (s : State) : (endCheck s).cfg = s.cfg := by unfold endCheck; repeat (first | rfl | split)
@[simp] theorem endCheck_opr (s : State) : (endCheck s).opr = s.opr := by unfold endCheck; repeat (first | rfl | split)
@[simp] theorem endCheck_flags (s : State) : (endCheck s).flags = s.flags := by unfold endCheck; repeat (first | rfl | split)
@[simp] theorem endCheck_resCat (s : State) : (endCheck s).resCat = s.resCat := by unfold endCheck; repeat (first | rfl | split)
@[simp] theorem endCheck_resCk (s : State) : (endCheck s).resCk = s.resCk := by unfold endCheck; repeat (first | rfl | split)
@[simp] theorem endCheck_rxRes (s : State) : (endCheck s).rxRes = s.rxRes := by unfold endCheck; repeat (first | rfl | split)
@[simp] theorem endCheck_tx (s : State) : (endCheck s).tx = s.tx := by unfold endCheck; repeat (first | rfl | split)
@[simp] theorem endCheck_host (s : State) : (endCheck s).host = s.host := by unfold endCheck; repeat (first | rfl | split)

/-! ### Bursts change the RX engine, its results and two flags -/

@[simp] theorem finishBurst_cfg (s : State) : (finishBurst s).cfg = s.cfg := rfl
@[simp] theorem finishBurst_opr (s : State) : (finishBurst s).opr = s.opr := rfl
@[simp] theorem finishBurst_resCat (s : State) : (finishBurst s).resCat = s.resCat := rfl
@[simp] theorem finishBurst_resCk (s : State) : (finishBurst s).resCk = s.resCk := rfl
@[simp] theorem finishBurst_tx (s : State) : (finishBurst s).tx = s.tx := rfl
@[simp] theorem finishBurst_host (s : State) : (finishBurst s).host = s.host := rfl

@[simp] theorem rxPush_cfg (v : Duration) (last : Bool) (s : State) : (rxPush v last s).cfg = s.cfg := by unfold rxPush; repeat (first | rfl | simp | split)
@[simp] theorem rxPush_opr (v : Duration) (last : Bool) (s : State) : (rxPush v last s).opr = s.opr := by unfold rxPush; repeat (first | rfl | simp | split)
@[simp] theorem rxPush_resCat (v : Duration) (last : Bool) (s : State) : (rxPush v last s).resCat = s.resCat := by unfold rxPush; repeat (first | rfl | simp | split)
@[simp] theorem rxPush_resCk (v : Duration) (last : Bool) (s : State) : (rxPush v last s).resCk = s.resCk := by unfold rxPush; repeat (first | rfl | simp | split)
@[simp] theorem rxPush_tx (v : Duration) (last : Bool) (s : State) : (rxPush v last s).tx = s.tx := by unfold rxPush; repeat (first | rfl | simp | split)
@[simp] theorem rxPush_host (v : Duration) (last : Bool) (s : State) : (rxPush v last s).host = s.host := by unfold rxPush; repeat (first | rfl | simp | split)

@[simp] theorem pushBurst_cfg (vs : List Duration) (s : State) : (pushBurst vs s).cfg = s.cfg := by
  fun_induction pushBurst vs s <;> simp_all
@[simp] theorem pushBurst_opr (vs : List Duration) (s : State) : (pushBurst vs s).opr = s.opr := by
  fun_induction pushBurst vs s <;> simp_all
@[simp] theorem pushBurst_resCat (vs : List Duration) (s : State) : (pushBurst vs s).resCat = s.resCat := by
  fun_induction pushBurst vs s <;> simp_all
@[simp] theorem pushBurst_resCk (vs : List Duration) (s : State) : (pushBurst vs s).resCk = s.resCk := by
  fun_induction pushBurst vs s <;> simp_all
@[simp] theorem pushBurst_tx (vs : List Duration) (s : State) : (pushBurst vs s).tx = s.tx := by
  fun_induction pushBurst vs s <;> simp_all
@[simp] theorem pushBurst_host (vs : List Duration) (s : State) : (pushBurst vs s).host = s.host := by
  fun_induction pushBurst vs s <;> simp_all

/-! ### The TX engine -/

@[simp] theorem startTx_cfg (s : State) : (startTx s).cfg = s.cfg := by unfold startTx; split <;> rfl
@[simp] theorem startTx_opr (s : State) : (startTx s).opr = s.opr := by unfold startTx; split <;> rfl
@[simp] theorem startTx_resCat (s : State) : (startTx s).resCat = s.resCat := by unfold startTx; split <;> rfl
@[simp] theorem startTx_resCk (s : State) : (startTx s).resCk = s.resCk := by unfold startTx; split <;> rfl
@[simp] theorem startTx_rxRes (s : State) : (startTx s).rxRes = s.rxRes := by unfold startTx; split <;> rfl
@[simp] theorem startTx_rx (s : State) : (startTx s).rx = s.rx := by unfold startTx; split <;> rfl
@[simp] theorem startTx_host (s : State) : (startTx s).host = s.host := by unfold startTx; split <;> rfl

@[simp] theorem popState_cfg (s : State) : (popState s).cfg = s.cfg := by unfold popState; repeat (first | rfl | split)
@[simp] theorem popState_opr (s : State) : (popState s).opr = s.opr := by unfold popState; repeat (first | rfl | split)
@[simp] theorem popState_resCat (s : State) : (popState s).resCat = s.resCat := by unfold popState; repeat (first | rfl | split)
@[simp] theorem popState_resCk (s : State) : (popState s).resCk = s.resCk := by unfold popState; repeat (first | rfl | split)
@[simp] theorem popState_rxRes (s : State) : (popState s).rxRes = s.rxRes := by unfold popState; repeat (first | rfl | split)
@[simp] theorem popState_rx (s : State) : (popState s).rx = s.rx := by unfold popState; repeat (first | rfl | split)
@[simp] theorem popState_host (s : State) : (popState s).host = s.host := by unfold popState; repeat (first | rfl | split)

@[simp] theorem logRead_cfg (v : RegValue) (s : State) : (logRead v s).cfg = s.cfg := rfl
@[simp] theorem logRead_opr (v : RegValue) (s : State) : (logRead v s).opr = s.opr := rfl
@[simp] theorem logRead_flags (v : RegValue) (s : State) : (logRead v s).flags = s.flags := rfl
@[simp] theorem logRead_resCat (v : RegValue) (s : State) : (logRead v s).resCat = s.resCat := rfl
@[simp] theorem logRead_resCk (v : RegValue) (s : State) : (logRead v s).resCk = s.resCk := rfl
@[simp] theorem logRead_rxRes (v : RegValue) (s : State) : (logRead v s).rxRes = s.rxRes := rfl
@[simp] theorem logRead_rx (v : RegValue) (s : State) : (logRead v s).rx = s.rx := rfl
@[simp] theorem logRead_tx (v : RegValue) (s : State) : (logRead v s).tx = s.tx := rfl

@[simp] theorem popRead_cfg (s : State) : (popRead s).cfg = s.cfg := by simp [popRead]
@[simp] theorem popRead_opr (s : State) : (popRead s).opr = s.opr := by simp [popRead]
@[simp] theorem popRead_resCat (s : State) : (popRead s).resCat = s.resCat := by simp [popRead]
@[simp] theorem popRead_resCk (s : State) : (popRead s).resCk = s.resCk := by simp [popRead]
@[simp] theorem popRead_rxRes (s : State) : (popRead s).rxRes = s.rxRes := by simp [popRead]
@[simp] theorem popRead_rx (s : State) : (popRead s).rx = s.rx := by simp [popRead]

@[simp] theorem popReads_cfg (n : Nat) (s : State) : (popReads n s).cfg = s.cfg := by
  induction n generalizing s with
  | zero => rfl
  | succ n ih => simp [popReads, ih]
@[simp] theorem popReads_opr (n : Nat) (s : State) : (popReads n s).opr = s.opr := by
  induction n generalizing s with
  | zero => rfl
  | succ n ih => simp [popReads, ih]
@[simp] theorem popReads_resCat (n : Nat) (s : State) : (popReads n s).resCat = s.resCat := by
  induction n generalizing s with
  | zero => rfl
  | succ n ih => simp [popReads, ih]
@[simp] theorem popReads_resCk (n : Nat) (s : State) : (popReads n s).resCk = s.resCk := by
  induction n generalizing s with
  | zero => rfl
  | succ n ih => simp [popReads, ih]
@[simp] theorem popReads_rxRes (n : Nat) (s : State) : (popReads n s).rxRes = s.rxRes := by
  induction n generalizing s with
  | zero => rfl
  | succ n ih => simp [popReads, ih]
@[simp] theorem popReads_rx (n : Nat) (s : State) : (popReads n s).rx = s.rx := by
  induction n generalizing s with
  | zero => rfl
  | succ n ih => simp [popReads, ih]

/-! ### Register writes and SRESET -/

@[simp] theorem writeReg_resCat (r : Reg) (v : Nat) (s : State) : (writeReg r v s).resCat = s.resCat := by unfold writeReg writeConfig; repeat (first | rfl | split)
@[simp] theorem writeReg_resCk (r : Reg) (v : Nat) (s : State) : (writeReg r v s).resCk = s.resCk := by unfold writeReg writeConfig; repeat (first | rfl | split)
@[simp] theorem writeReg_rxRes (r : Reg) (v : Nat) (s : State) : (writeReg r v s).rxRes = s.rxRes := by unfold writeReg writeConfig; repeat (first | rfl | split)
@[simp] theorem writeReg_rx (r : Reg) (v : Nat) (s : State) : (writeReg r v s).rx = s.rx := by unfold writeReg writeConfig; repeat (first | rfl | split)
@[simp] theorem writeReg_tx (r : Reg) (v : Nat) (s : State) : (writeReg r v s).tx = s.tx := by unfold writeReg writeConfig; repeat (first | rfl | split)
@[simp] theorem writeReg_host (r : Reg) (v : Nat) (s : State) : (writeReg r v s).host = s.host := by unfold writeReg writeConfig; repeat (first | rfl | split)

@[simp] theorem softReset_cfg (s : State) : (softReset s).cfg = s.cfg := rfl
@[simp] theorem softReset_opr (s : State) : (softReset s).opr = s.opr := rfl
@[simp] theorem softReset_host (s : State) : (softReset s).host = s.host := rfl

end Sys2Proof.Machine
end

