-- ==== Sys2Proof/Laws/Ops.lean ====
section
/-! SUPPORT. What each shared operation does, said once per case, so that later proofs cite it. -/

set_option Elab.async false

namespace Sys2Proof.Machine

/-! ### Busy tests -/

theorem rxBusy_iff (s : State) : s.rxBusy = true ↔ s.rx.phase ≠ .idle := by simp [State.rxBusy]

theorem rxBusy_eq_false_iff (s : State) : s.rxBusy = false ↔ s.rx.phase = .idle := by simp [State.rxBusy]

theorem txBusy_eq (s : State) : s.txBusy = s.flags.txBusy := rfl

/-! ### Commands -/

theorem startRx_idle {s : State} (m : RxMode) (p : RxPhase) (h : s.rx.phase = .idle) :
    startRx m p s = armRx m p s := by simp [startRx, State.rxBusy, h]

theorem startRx_busy {s : State} (m : RxMode) (p : RxPhase) (h : s.rx.phase ≠ .idle) :
    startRx m p s = setBusyErr s := by simp [startRx, State.rxBusy, h]

@[simp] theorem armRx_rx (m : RxMode) (p : RxPhase) (s : State) :
    (armRx m p s).rx =
      { phase := p, mode := m, half := false, first := 0, cnt := 0, sr := 0, err := .noError, gap := false } := rfl

@[simp] theorem armRx_rxRes (m : RxMode) (p : RxPhase) (s : State) : (armRx m p s).rxRes = RxResults.zero := rfl

@[simp] theorem armRx_flags (m : RxMode) (p : RxPhase) (s : State) :
    (armRx m p s).flags = { s.flags with rxDone := false } := rfl

theorem startTx_idle {s : State} (h : s.flags.txBusy = false) :
    startTx s =
      (s.withTx { word := frameWord s.cfg s.opr.fRemote s.opr.fChannel s.opr.fCommand, idx := 0 }).withFlags
        { s.flags with txBusy := true, txDone := false } := by
  simp [startTx, State.txBusy, h]

theorem startTx_busy {s : State} (h : s.flags.txBusy = true) : startTx s = setBusyErr s := by
  simp [startTx, State.txBusy, h]

/-! ### The RX sequencer -/

theorem stepCategory_hunt {s : State} (c : Category) (h : s.rx.phase = .hunt) : stepCategory c s = stepHunt c s := by
  simp [stepCategory, h]

theorem stepCategory_data {s : State} (c : Category) (h : s.rx.phase = .data) : stepCategory c s = stepData c s := by
  simp [stepCategory, h]

theorem stepCategory_tail {s : State} (c : Category) (h : s.rx.phase = .tail) : stepCategory c s = stepTail c s := by
  simp [stepCategory, h]

theorem stepCategory_flush {s : State} (c : Category) (h : s.rx.phase = .flush) : stepCategory c s = s := by
  simp [stepCategory, h]

theorem stepSample_dur {s : State} (v : Duration) (h : s.rx.mode = .dur) :
    stepSample v s = stepCategory (classify s.cfg v.toNat) s := by simp [stepSample, h]

theorem stepSample_cat {s : State} (v : Duration) (h : s.rx.mode = .cat) :
    stepSample v s = stepCategory (catDecode (v.setWidth 3)) s := by simp [stepSample, h]

theorem stepSample_bit {s : State} (v : Duration) (h : s.rx.mode = .bit) :
    stepSample v s = stepBit (v.getLsbD 0) s := by simp [stepSample, h]

theorem stepSample_flush {s : State} (v : Duration) (h : s.rx.phase = .flush) : stepSample v s = s := by
  unfold stepSample stepCategory stepBit
  split <;> simp [h]

/-- No sample takes the engine to IDLE; only the end of a burst does (10_state.md R33). -/
theorem stepSample_phase_ne_idle {s : State} (v : Duration) (h : s.rx.phase ≠ .idle) :
    (stepSample v s).rx.phase ≠ .idle := by
  unfold stepSample stepCategory stepBit
  split <;> split <;> simp_all [stepHunt, stepData, stepTail, stepBits]
  all_goals repeat' split
  all_goals simp_all [stepSecond, stepFirst, raiseErr]
  all_goals repeat' split
  all_goals simp_all [collectBit]
  all_goals split <;> simp

/-- The mode is constant during a burst (10_state.md R34). -/
@[simp] theorem stepSample_mode (v : Duration) (s : State) : (stepSample v s).rx.mode = s.rx.mode := by
  unfold stepSample stepCategory stepBit
  split <;> split <;> simp_all [stepHunt, stepData, stepTail, stepBits]
  all_goals repeat' split
  all_goals simp_all [stepSecond, stepFirst, raiseErr]
  all_goals repeat' split
  all_goals simp_all [collectBit]

/-! ### Pushing a sample -/

theorem rxPush_idle {s : State} (v : Duration) (last : Bool) (h : s.rx.phase = .idle) :
    rxPush v last s = setRxOvr s := by simp [rxPush, State.rxBusy, h]

theorem rxPush_more {s : State} (v : Duration) (h : s.rx.phase ≠ .idle) : rxPush v false s = stepSample v s := by
  simp [rxPush, State.rxBusy, h]

theorem rxPush_last {s : State} (v : Duration) (h : s.rx.phase ≠ .idle) :
    rxPush v true s = finishBurst (endCheck (stepSample v s)) := by
  simp [rxPush, State.rxBusy, h]

@[simp] theorem finishBurst_rx (s : State) : (finishBurst s).rx = { s.rx with phase := .idle } := rfl

@[simp] theorem finishBurst_rxRes (s : State) :
    (finishBurst s).rxRes = if s.rx.err = .noError then goodResults s else badResults s := rfl

@[simp] theorem finishBurst_flags (s : State) : (finishBurst s).flags = { s.flags with rxDone := true } := rfl

theorem pushBurst_cons {v w : Duration} {vs : List Duration} (s : State) :
    pushBurst (v :: w :: vs) s = pushBurst (w :: vs) (rxPush v false s) := rfl

/-! ### Popping a pulse -/

theorem popState_more {s : State} (h : s.flags.txBusy = true) (k : s.tx.idx.toNat < 82) :
    popState s = s.withTx { s.tx with idx := s.tx.idx + 1 } := by simp [popState, State.txBusy, h, k]

theorem popState_last {s : State} (h : s.flags.txBusy = true) (k : ¬s.tx.idx.toNat < 82) :
    popState s = (s.withTx { s.tx with idx := 0 }).withFlags { s.flags with txBusy := false, txDone := true } := by
  simp [popState, State.txBusy, h, k]

theorem popState_idle {s : State} (h : s.flags.txBusy = false) : popState s = setTxUdr s := by
  simp [popState, State.txBusy, h]

theorem popWord_busy {s : State} (h : s.flags.txBusy = true) :
    popWord s = trainPortWord s.cfg s.tx.word s.tx.idx.toNat := by simp [popWord, State.txBusy, h]

theorem popWord_idle {s : State} (h : s.flags.txBusy = false) : popWord s = 0 := by
  simp [popWord, State.txBusy, h]

theorem popReads_add (m n : Nat) (s : State) : popReads (m + n) s = popReads n (popReads m s) := by
  induction m generalizing s with
  | zero => simp [popReads]
  | succ m ih => rw [Nat.succ_add]; simp [popReads, ih]

/-! ### Register writes -/

theorem writeReg_config_idle {s : State} {r : Reg} (v : Nat) (hr : r.isConfig = true) (h : s.rx.phase = .idle)
    (k : s.flags.txBusy = false) : writeReg r v s = s.withCfg (s.cfg.write r v) := by
  simp [writeReg, writeConfig, hr, State.rxBusy, State.txBusy, h, k]

theorem writeReg_config_busy {s : State} {r : Reg} (v : Nat) (hr : r.isConfig = true)
    (h : s.rx.phase ≠ .idle ∨ s.flags.txBusy = true) : writeReg r v s = setBusyErr s := by
  rcases h with h | h <;> simp [writeReg, writeConfig, hr, State.rxBusy, State.txBusy, h]

theorem writeReg_operand {r : Reg} (v : Nat) (s : State) (hr : r.isOperand = true) :
    writeReg r v s = s.withOpr (s.opr.write r v) := by
  cases r <;> simp_all [writeReg, Reg.isConfig, Reg.isOperand]

theorem writeReg_status (v : Nat) (s : State) : writeReg .status v s = clearSticky v s := rfl

theorem writeReg_other {r : Reg} (v : Nat) (s : State) (h1 : r.isConfig = false) (h2 : r.isOperand = false)
    (h3 : r ≠ .status) : writeReg r v s = s := by simp [writeReg, h1, h2, h3]

/-- What a register write can change, once: configuration, operands or STATUS bits. -/
theorem writeReg_shape (r : Reg) (v : Nat) (s : State) :
    writeReg r v s =
      ((s.withCfg (writeReg r v s).cfg).withOpr (writeReg r v s).opr).withFlags (writeReg r v s).flags :=
  State.eq_of_parts rfl rfl rfl (by simp) (by simp) (by simp) (by simp) (by simp) (by simp)

/-- What a pushed sample can change, once: the RX engine, its results and STATUS bits. -/
theorem rxPush_shape (v : Duration) (last : Bool) (s : State) :
    rxPush v last s =
      ((s.withRx (rxPush v last s).rx).withRxRes (rxPush v last s).rxRes).withFlags (rxPush v last s).flags :=
  State.eq_of_parts (by simp) (by simp) rfl (by simp) (by simp) rfl rfl (by simp) (by simp)

/-- What a pop can change, once: the TX engine and STATUS bits. -/
theorem popState_shape (s : State) :
    popState s = (s.withTx (popState s).tx).withFlags (popState s).flags :=
  State.eq_of_parts (by simp) (by simp) rfl (by simp) (by simp) (by simp) (by simp) rfl (by simp)

/-- SRESET changes everything but configuration, operands and the host's side. -/
theorem softReset_eq (s : State) :
    softReset s = ((State.reset.withCfg s.cfg).withOpr s.opr).withHost s.host := rfl

end Sys2Proof.Machine
end

