-- ==== Sys2Proof/Laws/Exec.lean ====
section
/-! SUPPORT. What no instruction changes, and what the host's events come to. -/

set_option Elab.async false

namespace Sys2Proof.Machine

@[simp] theorem pushPulse_cfg (c : Category) (s : State) : (pushPulse c s).cfg = s.cfg := by simp [pushPulse]

@[simp] theorem pushPulse_tx (c : Category) (s : State) : (pushPulse c s).tx = s.tx := by simp [pushPulse]

@[simp] theorem pushPulse_host (c : Category) (s : State) : (pushPulse c s).host = s.host := by simp [pushPulse]

@[simp] theorem writePayload_opr (r : RemoteId) (h c : Nibble) (s : State) :
    writePayload r h c s = s.withOpr { s.opr with fRemote := r, fChannel := h, fCommand := c } := by
  simp [writePayload, writeReg, Reg.isConfig, Reg.isOperand, OperandRegs.write]

/-- No instruction writes a configuration register (10_state.md R40, R43 item 11). -/
theorem exec_cfg {i : Instr} {s t : State} (h : exec i s = .next t) : t.cfg = s.cfg := by
  cases i <;> simp only [exec, execReserved0, execClassify, execRxburst, execBitdec, execFdec, execCksum, execFenc,
    execSreset, execTxframe, execValidate, execFrame40, execBit0, execBit1, execBadpair, execPreamble, execSync,
    execEndgap, execTrain, execPortword, execCatUnknown, execCatShort, execCatLong, execCatSync, execCatGap,
    execErrNone, execErrMalformedPulsePair, execErrUnexpectedLength, execErrLengthMismatch] at h
  all_goals first
    | (obtain rfl := Host.Outcome.next.inj h; simp [noteVerdict, readRegister])
    | (split at h <;> (obtain rfl := Host.Outcome.next.inj h; simp))

@[simp] theorem pushPulse_opr (c : Category) (s : State) : (pushPulse c s).opr = s.opr := by simp [pushPulse]

@[simp] theorem pushPulse_resCat (c : Category) (s : State) : (pushPulse c s).resCat = s.resCat := by simp [pushPulse]

@[simp] theorem pushPulse_resCk (c : Category) (s : State) : (pushPulse c s).resCk = s.resCk := by simp [pushPulse]

@[simp] theorem pushPulses_cfg (cs : List Category) (s : State) : (pushPulses cs s).cfg = s.cfg := by
  induction cs generalizing s with
  | nil => rfl
  | cons c cs ih => simp [pushPulses, ih]

@[simp] theorem pushUnfit_cfg (f : Format) (ws : List Nat) (s : State) : (pushUnfit f ws s).cfg = s.cfg := by
  cases f <;> simp [pushUnfit]

@[simp] theorem pushPulses_opr (cs : List Category) (s : State) : (pushPulses cs s).opr = s.opr := by
  induction cs generalizing s with
  | nil => rfl
  | cons c cs ih => simp [pushPulses, ih]

@[simp] theorem pushUnfit_opr (f : Format) (ws : List Nat) (s : State) : (pushUnfit f ws s).opr = s.opr := by
  cases f <;> simp [pushUnfit]

@[simp] theorem pushPulses_resCat (cs : List Category) (s : State) : (pushPulses cs s).resCat = s.resCat := by
  induction cs generalizing s with
  | nil => rfl
  | cons c cs ih => simp [pushPulses, ih]

@[simp] theorem pushUnfit_resCat (f : Format) (ws : List Nat) (s : State) : (pushUnfit f ws s).resCat = s.resCat := by
  cases f <;> simp [pushUnfit]

@[simp] theorem pushPulses_resCk (cs : List Category) (s : State) : (pushPulses cs s).resCk = s.resCk := by
  induction cs generalizing s with
  | nil => rfl
  | cons c cs ih => simp [pushPulses, ih]

@[simp] theorem pushUnfit_resCk (f : Format) (ws : List Nat) (s : State) : (pushUnfit f ws s).resCk = s.resCk := by
  cases f <;> simp [pushUnfit]

@[simp] theorem pushPulses_tx (cs : List Category) (s : State) : (pushPulses cs s).tx = s.tx := by
  induction cs generalizing s with
  | nil => rfl
  | cons c cs ih => simp [pushPulses, ih]

@[simp] theorem pushUnfit_tx (f : Format) (ws : List Nat) (s : State) : (pushUnfit f ws s).tx = s.tx := by
  cases f <;> simp [pushUnfit]

@[simp] theorem pushPulses_host (cs : List Category) (s : State) : (pushPulses cs s).host = s.host := by
  induction cs generalizing s with
  | nil => rfl
  | cons c cs ih => simp [pushPulses, ih]

@[simp] theorem pushUnfit_host (f : Format) (ws : List Nat) (s : State) : (pushUnfit f ws s).host = s.host := by
  cases f <;> simp [pushUnfit]

/-- Presented words run as the instruction they decode to, or as the pulses they are. -/
theorem runWords_cases (f : Format) (ws : List Nat) (s : State) :
    (∃ i : Instr, decode f ws = .ok i ∧ runWords f ws s = exec i s) ∨
      ((∃ e : DecodeError, decode f ws = .error e) ∧ runWords f ws s = .next (pushUnfit f ws s)) := by
  unfold runWords
  cases h : decode f ws with
  | ok i => exact .inl ⟨i, rfl, rfl⟩
  | error e => exact .inr ⟨⟨e, rfl⟩, rfl⟩

/-- A read of TX_DATA pops, every other read is recorded and changes nothing of the block. -/
theorem hostRead_eq (n : Nat) (s : State) :
    hostRead n s =
      if regOfNum n = some .txData then popRead s
      else logRead ((regOfNum n).elim 0 fun r => readReg r s) s := by
  unfold hostRead readRegister
  split
  · rename_i r hr
    by_cases ht : r = .txData <;> simp [hr, ht]
  · rename_i hr
    simp [hr]

/-- A write goes to the command decoder, to the receive port, to a register, or nowhere. -/
theorem hostWrite_eq {n : Nat} {r : Reg} (v : Nat) (s : State) (hr : regOfNum n = some r) (h1 : r ≠ .cmd)
    (h2 : r ≠ .rxData) : hostWrite n v s = .next (writeReg r v s) := by
  unfold hostWrite
  split <;> simp_all

theorem hostWrite_cmd (v : Nat) (s : State) : hostWrite 0x18 v s = exec (decodeOp v) s := rfl

theorem hostWrite_rxData (v : Nat) (s : State) :
    hostWrite 0x30 v s = .next (rxPush (BitVec.ofNat 16 v) (v.testBit 16) s) := rfl

theorem step_nil {s : State} (h : s.host.pending = []) : step s = .next s := by simp [step, h]

theorem step_cons {s : State} {e : HostEvent} {rest : List HostEvent} (h : s.host.pending = e :: rest) :
    step s = performEvent e (s.withHost { s.host with pending := rest }) := by simp [step, h, dropEvent]

end Sys2Proof.Machine
end

