-- ==== Sys2Proof/Laws/PerInstr.lean ====
section
/-! SUPPORT. Per instruction: every word the encoder writes fits the width its format gives it (30_encoding.md R90). -/

set_option Elab.async false

namespace Sys2Proof.Laws

/-- The width of the widest word of a format (30_encoding.md R92, R96, R103, R104, R106, R108). -/
def wordBits : Format → Nat
  | .op => 3
  | .pseudo => 24
  | .frame40 => 40
  | .symbol _ => 3
  | .train => 3
  | .port17 => 17
  | .catcode => 3
  | .errcode => 2

theorem category_word_lt (c : Category) : c.word < 2 ^ 3 := c.code.isLt

/-- The words of the instruction fit its format. -/
def EncodeFits.Statement (i : Instr) : Prop := ∀ w ∈ encode i, w < 2 ^ wordBits i.format

theorem EncodeFits.reserved0 : EncodeFits.Statement .reserved0 := by unfold EncodeFits.Statement; decide
theorem EncodeFits.classify : EncodeFits.Statement .classify := by unfold EncodeFits.Statement; decide
theorem EncodeFits.rxburst : EncodeFits.Statement .rxburst := by unfold EncodeFits.Statement; decide
theorem EncodeFits.bitdec : EncodeFits.Statement .bitdec := by unfold EncodeFits.Statement; decide
theorem EncodeFits.fdec : EncodeFits.Statement .fdec := by unfold EncodeFits.Statement; decide
theorem EncodeFits.cksum : EncodeFits.Statement .cksum := by unfold EncodeFits.Statement; decide
theorem EncodeFits.fenc : EncodeFits.Statement .fenc := by unfold EncodeFits.Statement; decide
theorem EncodeFits.sreset : EncodeFits.Statement .sreset := by unfold EncodeFits.Statement; decide

theorem EncodeFits.txframe (r : RemoteId) (h c : Nibble) : EncodeFits.Statement (.txframe r h c) := by
  intro w hw
  simp only [encode, List.mem_cons, List.not_mem_nil, or_false] at hw
  have hr := r.isLt
  have hh := h.isLt
  have hc := c.isLt
  simp only [Instr.format, wordBits]
  omega

theorem EncodeFits.validate (r : RemoteId) (h c : Nibble) (k : CheckByte) :
    EncodeFits.Statement (.validate r h c k) := by
  intro w hw
  simp only [encode, List.mem_cons, List.not_mem_nil, or_false] at hw
  have hr := r.isLt
  have hh := h.isLt
  have hc := c.isLt
  have hk := k.isLt
  simp only [Instr.format, wordBits]
  omega

theorem EncodeFits.frame40 (r : RemoteId) (h c : Nibble) (k : CheckByte) :
    EncodeFits.Statement (.frame40 r h c k) := by
  intro w hw
  simp only [encode, List.mem_cons, List.not_mem_nil, or_false] at hw
  exact hw ▸ (frameOf r h c k).isLt

theorem EncodeFits.bit0 : EncodeFits.Statement .bit0 := by unfold EncodeFits.Statement; decide
theorem EncodeFits.bit1 : EncodeFits.Statement .bit1 := by unfold EncodeFits.Statement; decide

theorem EncodeFits.badpair (a b : Category) : EncodeFits.Statement (.badpair a b) := by
  intro w hw
  simp only [encode, pairWords, List.mem_cons, List.not_mem_nil, or_false] at hw
  rcases hw with rfl | rfl <;> exact category_word_lt _

theorem EncodeFits.preamble (c : Category) : EncodeFits.Statement (.preamble c) := by
  intro w hw
  simp only [encode, List.mem_cons, List.not_mem_nil, or_false] at hw
  exact hw ▸ category_word_lt c

theorem EncodeFits.sync : EncodeFits.Statement .sync := by unfold EncodeFits.Statement; decide
theorem EncodeFits.endgap : EncodeFits.Statement .endgap := by unfold EncodeFits.Statement; decide

theorem EncodeFits.train (p : Category) (w : FrameWord) : EncodeFits.Statement (.train p w) := by
  intro x hx
  simp only [encode, pairWords, List.cons_append, List.mem_cons, List.mem_append, List.mem_flatMap,
    List.not_mem_nil, or_false] at hx
  rcases hx with rfl | rfl | ⟨b, -, rfl | rfl⟩ | rfl <;> exact category_word_lt _

theorem EncodeFits.portword (last : Bool) (v : Duration) : EncodeFits.Statement (.portword last v) := by
  intro w hw
  simp only [encode, List.mem_cons, List.not_mem_nil, or_false] at hw
  exact hw ▸ (BitVec.ofBool last ++ v).isLt

theorem EncodeFits.catUnknown : EncodeFits.Statement .catUnknown := by unfold EncodeFits.Statement; decide
theorem EncodeFits.catShort : EncodeFits.Statement .catShort := by unfold EncodeFits.Statement; decide
theorem EncodeFits.catLong : EncodeFits.Statement .catLong := by unfold EncodeFits.Statement; decide
theorem EncodeFits.catSync : EncodeFits.Statement .catSync := by unfold EncodeFits.Statement; decide
theorem EncodeFits.catGap : EncodeFits.Statement .catGap := by unfold EncodeFits.Statement; decide
theorem EncodeFits.errNone : EncodeFits.Statement .errNone := by unfold EncodeFits.Statement; decide
theorem EncodeFits.errMalformedPulsePair : EncodeFits.Statement .errMalformedPulsePair := by
  unfold EncodeFits.Statement; decide
theorem EncodeFits.errUnexpectedLength : EncodeFits.Statement .errUnexpectedLength := by
  unfold EncodeFits.Statement; decide
theorem EncodeFits.errLengthMismatch : EncodeFits.Statement .errLengthMismatch := by
  unfold EncodeFits.Statement; decide

end Sys2Proof.Laws
end

