-- ==== Sys2Proof/Laws/Train.lean ====
section
/-! SUPPORT. What the pulses of a train decode to under any windows: the errors of 70_reset_and_hazards.md R257, and the
one profile beside the loop-compatible ones that decodes. -/

set_option Elab.async false

namespace Sys2Proof.Machine

/-- The durations of the pair sent for a bit, first pulse first (30_encoding.md R95, R101). -/
def pairDurations (g : CfgRegs) (b : Bool) : List Duration :=
  [if b then g.tLong else g.tShort, if b then g.tShort else g.tLong]

theorem pulseAt_first (g : CfgRegs) (w : FrameWord) {i : Nat} (h : i < 40) :
    pulseAt g w (2 + 2 * i) = if frameBit w i then g.tLong else g.tShort := by
  have h1 : (2 + 2 * i - 2) / 2 = i := by omega
  have h2 : (2 + 2 * i - 2) % 2 = 0 := by omega
  rw [pulseAt, if_neg (by omega), if_neg (by omega), if_neg (by omega), h1, h2]
  cases frameBit w i <;> rfl
theorem pulseAt_second (g : CfgRegs) (w : FrameWord) {i : Nat} (h : i < 40) :
    pulseAt g w (3 + 2 * i) = if frameBit w i then g.tShort else g.tLong := by
  have h1 : (3 + 2 * i - 2) / 2 = i := by omega
  have h2 : (3 + 2 * i - 2) % 2 = 1 := by omega
  rw [pulseAt, if_neg (by omega), if_neg (by omega), if_neg (by omega), h1, h2]
  cases frameBit w i <;> rfl

/-- A train is the preamble, the sync, the forty pairs and the end-gap (30_encoding.md R101). -/
theorem train_eq (g : CfgRegs) (w : FrameWord) :
    train g w = g.tPreamble :: g.tSync :: ((frameBits w).flatMap (pairDurations g) ++ [g.tGap]) := by
  have hr : List.range 83 = 0 :: 1 :: ((List.range 40).flatMap (fun i => [2 + 2 * i, 3 + 2 * i]) ++ [82]) := by decide
  rw [train, hr]
  simp only [List.map_cons, List.map_append, List.map_flatMap, List.map_nil, frameBits, List.flatMap_map]
  congr 3
  apply List.flatMap_congr
  intro i hi
  rw [pulseAt_first g w (List.mem_range.1 hi), pulseAt_second g w (List.mem_range.1 hi)]
  rfl

/-- The categories of the pair sent for a bit when T_SHORT reads as `a` and T_LONG as `b`. -/
def pairReads (a b : Category) (x : Bool) : List Category := [if x then b else a, if x then a else b]

/-- What the windows make of a train. -/
theorem train_categories (g : CfgRegs) (w : FrameWord) :
    ((train g w).map fun d => classify g d.toNat) =
      classify g g.tPreamble.toNat :: classify g g.tSync.toNat ::
        ((frameBits w).flatMap (pairReads (classify g g.tShort.toNat) (classify g g.tLong.toNat)) ++
          [classify g g.tGap.toNat]) := by
  rw [train_eq, List.map_cons, List.map_cons, List.map_append, List.map_flatMap]
  congr 4
  funext x
  cases x <;> rfl

theorem length_flatMap_pairReads (a b : Category) (xs : List Bool) :
    (xs.flatMap (pairReads a b)).length = 2 * xs.length := by
  induction xs with
  | nil => rfl
  | cons x xs ih => simp [pairReads] at ih ⊢; omega

theorem mem_flatMap_pairReads {a b c : Category} {xs : List Bool} (h : c ∈ xs.flatMap (pairReads a b)) :
    c = a ∨ c = b := by
  obtain ⟨x, -, hx⟩ := List.mem_flatMap.1 h
  cases x <;> simp [pairReads] at hx
  exacts [hx, hx.symm]

/-- Pairs read without a defect are the pairs sent for the bits read, and then the rest. -/
theorem readPairs_ok {n : Nat} {cs left : List Category} {xs : List Bool} (h : readPairs n cs = .ok (xs, left)) :
    xs.length = n ∧ cs = xs.flatMap (pairReads .short .long) ++ left := by
  induction n generalizing cs xs with
  | zero => simp [readPairs] at h; simp [h.1, h.2]
  | succ n ih =>
    match cs, h with
    | [], h => simp [readPairs] at h
    | [_], h => simp [readPairs] at h
    | a :: b :: rest, h =>
      simp only [readPairs] at h
      split at h
      · cases h
      · rename_i x hp
        split at h
        · rename_i ys l hr
          cases h
          obtain ⟨h1, h2⟩ := ih hr
          have hab : pairReads .short .long x = [a, b] := by
            cases a <;> cases b <;> simp [pairBit] at hp <;> subst hp <;> rfl
          simp [h1, hab, h2]
        · cases h

theorem readPairs_error {n : Nat} {cs : List Category} {e : ErrCode} (h : readPairs n cs = .error e) :
    e = .malformedPulsePair ∨ e = .unexpectedLength := by
  induction n generalizing cs with
  | zero => simp [readPairs] at h
  | succ n ih =>
    match cs, h with
    | [], h => simp [readPairs] at h; exact .inr h.symm
    | [_], h => simp [readPairs] at h; exact .inr h.symm
    | a :: b :: rest, h =>
      simp only [readPairs] at h
      split at h
      · cases h; exact .inl rfl
      · split at h
        · cases h
        · cases h; exact ih ‹_›

theorem beforeGap_cases (cs : List Category) :
    (cs = (beforeGap cs).1 ∧ (beforeGap cs).2 = false) ∨
      ∃ rest : List Category, cs = (beforeGap cs).1 ++ .gap :: rest ∧ (beforeGap cs).2 = true := by
  induction cs with
  | nil => exact .inl ⟨rfl, rfl⟩
  | cons c cs ih =>
    by_cases hc : c = .gap
    · exact .inr ⟨cs, by simp [beforeGap, hc]⟩
    · rcases ih with ⟨h1, h2⟩ | ⟨rest, h1, h2⟩
      · exact .inl (by simp [beforeGap, hc, h2, ← h1])
      · exact .inr ⟨rest, by simp [beforeGap, hc, h2, ← h1]⟩

/-- A burst that decodes holds, after its first SYNC, exactly the pairs of the forty bits read before the first GAP or
the end. -/
theorem bitDecode_ok {cats : List Category} {xs : List Bool} {gap : Bool} (h : bitDecode cats = .ok (xs, gap)) :
    ∃ data : List Category, afterSync cats = some data ∧ xs.length = 40 ∧
      (data = xs.flatMap (pairReads .short .long) ∨
        ∃ rest : List Category, data = xs.flatMap (pairReads .short .long) ++ .gap :: rest) := by
  unfold bitDecode at h
  split at h
  · cases h
  · rename_i data hd
    split at h
    · cases h
    · rename_i ys left hr
      split at h
      · rename_i hl
        cases h
        subst hl
        obtain ⟨h1, h2⟩ := readPairs_ok hr
        rw [List.append_nil] at h2
        refine ⟨data, hd, h1, ?_⟩
        rcases beforeGap_cases data with ⟨hb, -⟩ | ⟨rest, hb, -⟩
        · exact .inl (hb.trans h2)
        · exact .inr ⟨rest, by rw [← h2]; exact hb⟩
      · cases h

theorem bitDecode_error {cats : List Category} {e : ErrCode} (h : bitDecode cats = .error e) :
    e = .malformedPulsePair ∨ e = .unexpectedLength := by
  unfold bitDecode at h
  split at h
  · cases h; exact .inr rfl
  · split at h
    · cases h; exact readPairs_error ‹_›
    · split at h
      · cases h
      · cases h; exact .inr rfl

theorem afterSync_length {cs data : List Category} (h : afterSync cs = some data) : data.length < cs.length := by
  induction cs with
  | nil => simp [afterSync] at h
  | cons c cs ih =>
    unfold afterSync at h
    split at h
    · cases h; simp
    · have := ih h; simp; omega

/-- The pulses of a train decode only if the two data durations read SHORT and LONG, in one way or the other, the sync
SYNC, the end-gap GAP, and the preamble no SYNC. -/
theorem bitDecode_train_ok {p y g a b : Category} {bits xs : List Bool} {gap : Bool} (hn : bits.length = 40)
    (h : bitDecode (p :: y :: (bits.flatMap (pairReads a b) ++ [g])) = .ok (xs, gap)) :
    p ≠ .sync ∧ y = .sync ∧ g = .gap ∧ ((a = .short ∧ b = .long) ∨ (a = .long ∧ b = .short)) := by
  obtain ⟨data, hd, hx, ht⟩ := bitDecode_ok h
  have hu : (xs.flatMap (pairReads .short .long)).length = 80 := by rw [length_flatMap_pairReads, hx]
  have hg : ∀ c ∈ xs.flatMap (pairReads .short .long), c = .short ∨ c = .long := fun c => mem_flatMap_pairReads
  have hF : (bits.flatMap (pairReads a b)).length = 80 := by rw [length_flatMap_pairReads, hn]
  have hm : ∀ c ∈ bits.flatMap (pairReads a b), c = a ∨ c = b := fun c => mem_flatMap_pairReads
  obtain ⟨b0, b1, bs, rfl⟩ : ∃ b0 b1 bs, bits = b0 :: b1 :: bs := by
    match bits, hn with
    | b0 :: b1 :: bs, _ => exact ⟨b0, b1, bs, rfl⟩
  obtain ⟨x0, x1, zs, rfl⟩ : ∃ x0 x1 zs, xs = x0 :: x1 :: zs := by
    match xs, hx with
    | x0 :: x1 :: zs, _ => exact ⟨x0, x1, zs, rfl⟩
  have hlen : data.length = 80 ∨ 81 ≤ data.length := by
    rcases ht with rfl | ⟨rest, rfl⟩
    · exact .inl hu
    · exact .inr (by simp only [List.length_append, List.length_cons, hu]; omega)
  by_cases hp : p = .sync
  · -- the preamble is taken for the sync: a data pulse stands where a GAP should
    exfalso
    subst hp
    simp only [afterSync, if_true, Option.some.injEq] at hd
    rcases ht with ht | ⟨rest, ht⟩
    · have := congrArg List.length (hd.trans ht)
      simp only [List.length_cons, List.length_append, hF, hu, List.length_nil] at this
      omega
    · have he := hd.trans ht
      have hgap : Category.gap ∈ (b0 :: b1 :: bs).flatMap (pairReads a b) := by
        have h80 := congrArg (fun l => l[80]?) he
        simp only [List.getElem?_append_right (le_of_eq hu), hu, List.getElem?_cons_succ] at h80
        rw [List.getElem?_append_left (by omega)] at h80
        exact List.mem_of_getElem? h80
      have hab := hm _ hgap
      cases x0 <;> cases x1 <;> cases b0 <;> simp [pairReads] at he <;> grind
  · refine ⟨hp, ?_⟩
    simp only [afterSync, hp, if_false] at hd
    by_cases hy : y = .sync
    · refine ⟨hy, ?_⟩
      simp only [hy, if_true, Option.some.injEq] at hd
      rcases ht with ht | ⟨rest, ht⟩
      · have := congrArg List.length (hd.trans ht)
        simp only [List.length_append, hF, hu, List.length_cons, List.length_nil] at this
        omega
      · obtain ⟨h1, h2⟩ := List.append_inj (hd.trans ht) (hF.trans hu.symm)
        refine ⟨by simpa using (List.cons.inj h2).1, ?_⟩
        cases x0 <;> cases b0 <;> simp [pairReads] at h1 <;> simp [h1]
    · exfalso
      simp only [hy, if_false] at hd
      have hl := afterSync_length hd
      obtain ⟨c, cs, hc, hl80, hcs⟩ : ∃ c cs, (b0 :: b1 :: bs).flatMap (pairReads a b) ++ [g] = c :: cs ∧
          cs.length = 80 ∧ (c = .sync → .sync ∈ cs) := by
        refine ⟨if b0 then b else a,
          (if b0 then a else b) :: (pairReads a b b1 ++ (bs.flatMap (pairReads a b) ++ [g])), by simp [pairReads], ?_, ?_⟩
        · simp only [List.length_cons, List.length_append, length_flatMap_pairReads, pairReads,
            List.length_nil] at hn ⊢
          omega
        · cases b0 <;> cases b1 <;> simp [pairReads] <;> tauto
      rw [hc] at hd
      have hs : Category.sync ∈ data := by
        unfold afterSync at hd
        split at hd
        · cases hd; exact hcs ‹_›
        · have := afterSync_length hd; omega
      have hl := afterSync_length hd
      simp only [List.length_cons, hl80] at hl
      rcases ht with rfl | ⟨rest, rfl⟩
      · simpa using hg _ hs
      · simp only [List.length_append, List.length_cons, hu] at hl
        omega

theorem frameBits_length (w : FrameWord) : (frameBits w).length = 40 := by simp [frameBits]

/-- 70_reset_and_hazards.md R257: the train of a profile that is not loop-compatible decodes to MalformedPulsePair or
UnexpectedLength. The one profile it does not hold of is the swapped one (log entry 12). -/
theorem rxDecode_train_incompatible (g : CfgRegs) (w : FrameWord) (hl : ¬LoopCompatible g) (hs : ¬SwappedProfile g) :
    rxDecode g (train g w) = .error .malformedPulsePair ∨ rxDecode g (train g w) = .error .unexpectedLength := by
  unfold rxDecode
  rw [train_categories]
  cases h : bitDecode _ with
  | error e => rcases bitDecode_error h with rfl | rfl <;> simp [parseDecoded]
  | ok r =>
    obtain ⟨hp, hy, hg, hab⟩ := bitDecode_train_ok (frameBits_length w) h
    exfalso
    rcases hab with ⟨ha, hb⟩ | ⟨ha, hb⟩
    · exact hl ⟨ha, hb, hy, hg, hp⟩
    · exact hs ⟨ha, hb, hy, hg, hp⟩

/-- 70_reset_and_hazards.md R257: when T_PREAMBLE alone fails, reading as SYNC, pair 0 is malformed. -/
theorem rxDecode_train_sync_preamble (g : CfgRegs) (w : FrameWord) (hp : classify g g.tPreamble.toNat = .sync)
    (hs : classify g g.tShort.toNat = .short) (hl : classify g g.tLong.toNat = .long)
    (hy : classify g g.tSync.toNat = .sync) : rxDecode g (train g w) = .error .malformedPulsePair := by
  unfold rxDecode
  rw [train_categories, hp, hs, hl, hy]
  obtain ⟨b0, bs, hb⟩ : ∃ b0 bs, frameBits w = b0 :: bs := ⟨_, _, rfl⟩
  rw [hb]
  cases b0 <;> simp [bitDecode, afterSync, beforeGap, pairReads, readPairs, pairBit, parseDecoded]
theorem frameBits_not (w : FrameWord) : frameBits (~~~w) = (frameBits w).map not := by
  simp only [frameBits, List.map_map]
  apply List.map_congr_left
  intro i hi
  have hi := List.mem_range.1 hi
  have h : 39 - i < 40 := by omega
  simp [frameBit, h]

theorem flatMap_pairReads_swap (a b : Category) (xs : List Bool) :
    xs.flatMap (pairReads b a) = (xs.map not).flatMap (pairReads a b) := by
  induction xs with
  | nil => rfl
  | cons x xs ih => cases x <;> simp [pairReads, ih]

/-- The swapped profile's train of a word and a loop-compatible profile's train of its complement are one sequence of
categories. Only the category reaches the bit decoder (40_classifier.md R133), so no decoder that meets
44_framecodec_encode.md R200 can answer an error for the swapped train (log entry 12). -/
theorem swapped_train_reads_as_complement {g k : CfgRegs} (w : FrameWord) (hg : SwappedProfile g)
    (hk : LoopCompatible k)
    (hp : classify g g.tPreamble.toNat = classify k k.tPreamble.toNat) :
    ((train g w).map fun d => classify g d.toNat) = (train k (~~~w)).map fun d => classify k d.toNat := by
  rw [train_categories, train_categories, hg.1, hg.2.1, hg.2.2.1, hg.2.2.2.1, hk.1, hk.2.1, hk.2.2.1, hk.2.2.2.1, hp,
    flatMap_pairReads_swap, frameBits_not]

theorem beforeGap_gap {cs : List Category} (h : .gap ∉ cs) : beforeGap (cs ++ [.gap]) = (cs, true) := by
  induction cs with
  | nil => rfl
  | cons c cs ih =>
    simp only [List.mem_cons, not_or] at h
    simp [beforeGap, Ne.symm h.1, ih h.2]

theorem readPairs_swapped (xs : List Bool) :
    readPairs xs.length (xs.flatMap (pairReads .long .short)) = .ok (xs.map not, []) := by
  induction xs with
  | nil => rfl
  | cons x xs ih => cases x <;> simp [pairReads, readPairs, pairBit, ih]

/-- The train of the swapped profile holds forty good pairs, so 41_bitdecoder.md R141 and 30_encoding.md R102 decode it,
every bit inverted (log entry 12). -/
theorem bitDecode_train_swapped (g : CfgRegs) (w : FrameWord) (h : SwappedProfile g) :
    bitDecode ((train g w).map fun d => classify g d.toNat) = .ok ((frameBits w).map not, true) := by
  obtain ⟨hs, hl, hy, hg, hp⟩ := h
  have hgap : Category.gap ∉ (frameBits w).flatMap (pairReads .long .short) := fun hm => by
    simpa using mem_flatMap_pairReads hm
  have hr := readPairs_swapped (frameBits w)
  rw [frameBits_length] at hr
  rw [train_categories, hs, hl, hy, hg]
  simp [bitDecode, afterSync, hp, beforeGap_gap hgap, hr]

end Sys2Proof.Machine
end

