-- ==== Sys2Proof/Tests/Slice0.lean ====
section
/-! SUPPORT. Tests. Expected values are worked out by hand from the encodings of 30_encoding.md and the vectors of
95_test_vectors.md. The third part names a state and operands that meet the hypotheses of each obligation, one per
clause, at boundary values. -/

set_option Elab.async false

namespace Sys2Proof.Machine.Tests

/-! ### Small states -/

/-- Reset with events lined up. -/
def facing (es : List HostEvent) : State := lineUp es State.reset

/-- The RX engine in a phase and a mode. -/
def rxAt (p : RxPhase) (m : RxMode) : State := State.reset.withRx { State.reset.rx with phase := p, mode := m }

/-- The RX engine in a phase and a mode with a count. -/
def rxCount (p : RxPhase) (m : RxMode) (n : BitVec 6) : State := (rxAt p m).withRx { (rxAt p m).rx with cnt := n }

/-- Phase DATA with a first pulse held. -/
def rxHeld (m : RxMode) (c : BitVec 3) : State :=
  (rxAt .data m).withRx { (rxAt .data m).rx with half := true, first := c }

/-- The TX engine in the middle of a train of 0x98461A4332. -/
def txAt (k : BitVec 7) : State :=
  (State.reset.withTx { word := 0x98461A4332, idx := k }).withFlags { State.reset.flags with txBusy := true }

/-- Operands of the spec's sample frame. -/
def sample : State :=
  State.reset.withOpr { opDur := 458, fRemote := 0x98461A, fChannel := 4, fCommand := 3, fChecksum := 0x77 }

/-- Events put before a state. -/
def before (es : List HostEvent) (s : State) : State := lineUp es s

/-- A property of the next state. -/
abbrev After (o : Host.Outcome State Fault Refusal) (p : State → Prop) [DecidablePred p] : Bool :=
  match o with
  | .next t => decide (p t)
  | .fault _ => false
  | .refused _ => false

/-! ### WellFormed refuses what no words encode -/

theorem test_data_pair_is_no_badpair :
    (Instr.badpair .short .long).wellFormed = false ∧ (Instr.badpair .long .short).wellFormed = false := by decide

theorem test_preamble_is_no_sync : (Instr.preamble .sync).wellFormed = false := by decide

theorem test_train_preamble_is_no_sync : (Instr.train .sync 0).wellFormed = false := by decide

/-! ### Words written out bit by bit (30_encoding.md) -/

theorem test_decode_reserved0 : decode .op [0b000] = .ok .reserved0 := by decide

theorem test_decode_classify : decode .op [0b001] = .ok .classify := by decide

theorem test_decode_rxburst : decode .op [0b010] = .ok .rxburst := by decide

theorem test_decode_bitdec : decode .op [0b011] = .ok .bitdec := by decide

theorem test_decode_fdec : decode .op [0b100] = .ok .fdec := by decide

theorem test_decode_cksum : decode .op [0b101] = .ok .cksum := by decide

theorem test_decode_fenc : decode .op [0b110] = .ok .fenc := by decide

theorem test_decode_sreset : decode .op [0b111] = .ok .sreset := by decide

theorem test_decode_txframe : decode .pseudo [0x98461A, 0b0100, 0b0011, 0b110] = .ok (.txframe 0x98461A 4 3) := by
  decide

theorem test_decode_validate :
    decode .pseudo [0x98461A, 0b0100, 0b0011, 0b101, 0b00110010] = .ok (.validate 0x98461A 4 3 0x32) := by decide

theorem test_decode_frame40 :
    decode .frame40 [0b1001100001000110000110100100001100110010] = .ok (.frame40 0x98461A 4 3 0x32) := by decide

theorem test_decode_bit0 : decode (.symbol .data) [0b001, 0b010] = .ok .bit0 := by decide

theorem test_decode_bit1 : decode (.symbol .data) [0b010, 0b001] = .ok .bit1 := by decide

theorem test_decode_badpair : decode (.symbol .data) [0b011, 0b010] = .ok (.badpair .sync .long) := by decide

theorem test_decode_preamble : decode (.symbol .preamble) [0b000] = .ok (.preamble .unknown) := by decide

theorem test_decode_sync : decode (.symbol .sync) [0b011] = .ok .sync := by decide

theorem test_decode_endgap : decode (.symbol .endGap) [0b100] = .ok .endgap := by decide

/-- The 83 category codes of vector V11: preamble, sync, 40 pairs of 0x98461A4332, gap. -/
def trainCodes : List Nat :=
    [0, 3, 2, 1, 1, 2, 1, 2, 2, 1, 2, 1, 1, 2, 1, 2, 1, 2, 1, 2, 2, 1, 1, 2, 1, 2, 1, 2] ++
    [2, 1, 2, 1, 1, 2, 1, 2, 1, 2, 1, 2, 2, 1, 2, 1, 1, 2, 2, 1, 1, 2, 1, 2, 2, 1, 1, 2] ++
    [1, 2, 1, 2, 1, 2, 2, 1, 2, 1, 1, 2, 1, 2, 2, 1, 2, 1, 1, 2, 1, 2, 2, 1, 1, 2, 4]

theorem test_decode_train : decode .train trainCodes = .ok (.train .unknown 0x98461A4332) := by decide +kernel

theorem test_decode_portword :
    decode .port17 [0b1_0001101101011000] = .ok (.portword true 7000) ∧
      decode .port17 [0b0_0000000111001010] = .ok (.portword false 458) := by decide

theorem test_decode_catUnknown : decode .catcode [0b000] = .ok .catUnknown := by decide

theorem test_decode_catShort : decode .catcode [0b001] = .ok .catShort := by decide

theorem test_decode_catLong : decode .catcode [0b010] = .ok .catLong := by decide

theorem test_decode_catSync : decode .catcode [0b011] = .ok .catSync := by decide

theorem test_decode_catGap : decode .catcode [0b100] = .ok .catGap := by decide

theorem test_decode_reserved_category :
    decode .catcode [0b101] = .ok .catUnknown ∧ decode .catcode [0b111] = .ok .catUnknown := by decide

theorem test_decode_errNone : decode .errcode [0b00] = .ok .errNone := by decide

theorem test_decode_errMalformedPulsePair : decode .errcode [0b01] = .ok .errMalformedPulsePair := by decide

theorem test_decode_errUnexpectedLength : decode .errcode [0b10] = .ok .errUnexpectedLength := by decide

theorem test_decode_errLengthMismatch : decode .errcode [0b11] = .ok .errLengthMismatch := by decide

theorem test_decode_refuses_sync_preamble : decode (.symbol .preamble) [0b011] = .error .syncInPreamblePlace := by
  decide

theorem test_table_word_runs_first :
    After (step (State.reset.withFetchWord 8 0)) (fun t => t.statusWord = 0x10) = true := by decide

/-! ### One instruction each (95_test_vectors.md and the rules of each family) -/

theorem test_reserved0 : After (exec .reserved0 State.reset) (fun t => t.statusWord = 0x10) = true := by decide

theorem test_classify_458 : After (exec .classify sample) (fun t => t.resCat = 1) = true := by decide

theorem test_classify_edge :
    After (exec .classify (sample.withOpr { sample.opr with opDur := 511 })) (fun t => t.resCat = 0) = true := by
  decide

theorem test_rxburst :
    After (exec .rxburst State.reset) (fun t => t.statusWord = 0x01 ∧ t.rx.phase = .hunt ∧
      t.rx.mode = .dur) = true := by
  decide

theorem test_rxburst_busy :
    After (exec .rxburst (rxAt .data .cat)) (fun t => t.statusWord = 0x21 ∧ t.rx = (rxAt .data .cat).rx) = true := by
  decide

theorem test_bitdec : After (exec .bitdec (txAt 7)) (fun t => t.statusWord = 0x03 ∧ t.rx.mode = .cat) = true := by
  decide

theorem test_fdec : After (exec .fdec State.reset) (fun t => t.rx.phase = .bits ∧ t.rx.mode = .bit) = true := by
  decide

theorem test_cksum_constant : After (exec .cksum sample) (fun t => t.resCk = 0x32) = true := by decide

theorem test_cksum_confirmed_point :
    After (exec .cksum (sample.withCfg { sample.cfg with ckCtrl := 0xFF01 })) (fun t => t.resCk = 0x32) = true := by
  decide

theorem test_fenc_word :
    After (exec .fenc sample) (fun t => t.tx.word = 0x98461A4332 ∧ t.statusWord = 0x02) = true := by decide

theorem test_fenc_busy :
    After (exec .fenc (txAt 40)) (fun t => t.statusWord = 0x22 ∧ t.tx = (txAt 40).tx) = true := by decide

theorem test_sreset :
    After (exec .sreset (txAt 40)) (fun t => t.statusWord = 0 ∧ t.tx.word = 0 ∧ t.cfg = State.reset.cfg) = true := by
  decide

theorem test_txframe_last_pulse :
    After (exec (.txframe 0x98461A 4 3) State.reset) (fun t => t.host.returned.getLast? = some 72536 ∧
      t.statusWord = 0x08) = true := by
  decide +kernel

theorem test_txframe_first_pulses :
    After (exec (.txframe 0x98461A 4 3) State.reset)
      (fun t => t.host.returned.take 6 = [700, 2400, 1059, 458, 458, 1059]) = true := by
  decide +kernel

theorem test_validate_match :
    After (exec (.validate 0x98461A 4 3 0x32) State.reset) (fun t => t.host.verdict = some true ∧
      t.resCk = 0x32) = true := by
  decide

theorem test_validate_differs :
    After (exec (.validate 1 2 3 0x33) State.reset) (fun t => t.host.verdict = some false ∧
      t.opr.fRemote = 1) = true := by
  decide

theorem test_frame40 :
    After (exec (.frame40 0x98461A 4 3 0x33) (rxAt .bits .bit)) (fun t => t.rxRes.statusWord = 1 ∧
      t.rxRes.bits = 0x98461A4333) = true := by
  decide +kernel

theorem test_frame40_idle :
    After (exec (.frame40 0x98461A 4 3 0x33) State.reset) (fun t => t.statusWord = 0x40) = true := by decide +kernel

theorem test_bit0 :
    After (exec .bit0 ((rxAt .data .cat).withRx { (rxAt .data .cat).rx with sr := 5 })) (fun t => t.rx.sr = 10 ∧
      t.rx.cnt = 1) = true := by
  decide

theorem test_bit1 :
    After (exec .bit1 ((rxAt .data .dur).withRx { (rxAt .data .dur).rx with sr := 5, cnt := 39 }))
      (fun t => t.rx.sr = 11 ∧ t.rx.phase = .tail) = true := by
  decide

theorem test_badpair :
    After (exec (.badpair .short .short) (rxAt .data .dur)) (fun t => t.rx.err = .malformedPulsePair ∧
      t.rx.phase = .flush) = true := by
  decide

theorem test_badpair_gap_ends_first :
    After (exec (.badpair .short .gap) (rxAt .data .cat)) (fun t => t.rx.err = .unexpectedLength) = true := by decide

theorem test_preamble : After (exec (.preamble .gap) (rxAt .hunt .cat)) (fun t => t = rxAt .hunt .cat) = true := by
  decide

theorem test_sync : After (exec .sync (rxAt .hunt .dur)) (fun t => t.rx.phase = .data) = true := by decide

theorem test_endgap :
    After (exec .endgap (rxCount .tail .dur 40)) (fun t => t.rx.gap = true ∧ t.rx.phase = .flush) = true := by decide

theorem test_train_durations :
    After (exec (.train .unknown 0x98461A4332) (rxAt .hunt .dur)) (fun t => t.rxRes.statusWord = 25 ∧
      t.rxRes.remote = 0x98461A) = true := by
  decide +kernel

theorem test_train_codes :
    After (exec (.train .gap 0xFFFFFFFFFF) (rxAt .hunt .cat)) (fun t => t.rxRes.statusWord = 17 ∧
      t.rxRes.checksum = 0xFF) = true := by
  decide +kernel

theorem test_portword_idle :
    After (exec (.portword true 1059) State.reset) (fun t => t.statusWord = 0x40) = true := by decide

theorem test_portword_last_in_hunt :
    After (exec (.portword true 2400) (rxAt .hunt .dur)) (fun t => t.rxRes.statusWord = 4 ∧
      t.statusWord = 0x04) = true := by
  decide

theorem test_catUnknown :
    After (exec .catUnknown (rxHeld .cat 1)) (fun t => t.rx.err = .malformedPulsePair) = true := by decide

theorem test_catShort :
    After (exec .catShort (rxHeld .cat 2)) (fun t => t.rx.sr = 1 ∧ t.rx.half = false) = true := by decide

theorem test_catLong : After (exec .catLong (rxHeld .cat 1)) (fun t => t.rx.sr = 0 ∧ t.rx.cnt = 1) = true := by decide

theorem test_catSync : After (exec .catSync (rxAt .hunt .cat)) (fun t => t.rx.phase = .data) = true := by decide

theorem test_catGap :
    After (exec .catGap (rxHeld .cat 1)) (fun t => t.rx.err = .unexpectedLength ∧ t.rx.half = true) = true := by
  decide

theorem test_errNone : After (exec .errNone (rxAt .data .cat)) (fun t => t = rxAt .data .cat) = true := by decide

theorem test_errMalformedPulsePair :
    After (exec .errMalformedPulsePair (rxAt .data .cat)) (fun t => t.rx.err = .malformedPulsePair ∧
      t.rx.phase = .flush) = true := by
  decide

theorem test_errUnexpectedLength :
    After (exec .errUnexpectedLength (rxAt .hunt .dur)) (fun t => t.rxRes.statusWord = 4 ∧
      t.flags.rxDone = true) = true := by
  decide

theorem test_errLengthMismatch :
    After (exec .errLengthMismatch (rxAt .bits .bit)) (fun t => t.rxRes.statusWord = 6 ∧
      t.flags.rxDone = true) = true := by
  decide

/-! ### The bus (20_memory.md) -/

theorem test_command_ignores_high_bits :
    After (step (facing [.regWrite 0x18 9])) (fun t => t.rx.phase = .idle ∧ t.resCat = 0) = true := by decide

theorem test_check_control_bits_read_zero :
    After (step (facing [.regWrite 0x0D 0xFFFF])) (fun t => t.cfg.ckCtrl = 0xFF01) = true := by decide

theorem test_operand_is_truncated :
    After (step (facing [.regWrite 0x11 0x1FFFFFF])) (fun t => t.opr.fRemote = 0xFFFFFF) = true := by decide

theorem test_status_write_clears :
    After (step (before [.regWrite 0x19 0xFF] ((txAt 3).withFlags
      { (txAt 3).flags with illOp := true, txUdr := true }))) (fun t => t.statusWord = 0x02) = true := by decide

theorem test_unmapped_reads_zero :
    After (step (facing [.regRead 0x0E])) (fun t => t.host.returned = [0]) = true := by decide

theorem test_read_of_status :
    After (step (before [.regRead 0x19] (txAt 3))) (fun t => t.host.returned = [2]) = true := by decide

theorem test_pop_of_the_last_pulse :
    After (step (before [.regRead 0x31] (txAt 82))) (fun t => t.host.returned = [72536] ∧
      t.statusWord = 8) = true := by
  decide

theorem test_presented_words_that_fit_no_format :
    After (step (facing [.present .op []])) (fun t => t = State.reset) = true := by decide

/-- A SYNC where the preamble should stand is still a SYNC pulse (41_bitdecoder.md R144). -/
theorem test_misplaced_pulse_is_a_pulse :
    After (step (before [.present (.symbol .preamble) [3]] (rxAt .hunt .cat))) (fun t => t.rx.phase = .data) = true := by
  decide

/-- The train cut after the sync and one bad pair ends as a burst of three pulses (41_bitdecoder.md R147, R150). -/
theorem test_unfit_train_is_a_burst :
    After (step (before [.present .train [3, 1, 1]] (rxAt .hunt .cat))) (fun t => t.rxRes.statusWord = 2) = true := by
  decide

/-- T_SHORT reads LONG and T_LONG reads SHORT: the pair of bit 0 shifts in 1 (30_encoding.md R94; log entry 12). -/
theorem test_swapped_profile_inverts :
    After (exec .bit0 ((rxAt .data .dur).withCfg { State.reset.cfg with tShort := 1059, tLong := 458 }))
      (fun t => t.rx.sr = 1 ∧ t.rx.err = .noError) = true := by decide

/-! ### Witnesses: states and operands that meet the hypotheses of the obligations, clause by clause -/

theorem test_witness_DecodeOfEncodeIsTheInstruction :
    (Instr.train .gap 0xFFFFFFFFFF).wellFormed = true ∧ (Instr.badpair .gap .sync).wellFormed = true ∧
      (Instr.preamble .unknown).wellFormed = true := by decide

theorem test_witness_DecodedInstructionIsWellFormed :
    decode (.symbol .data) [4, 3] = .ok (.badpair .gap .sync) := by decide

theorem test_witness_SentPairReadsBackAsItsBit :
    39 < 40 ∧ pulseAt State.reset.cfg 1 (2 + 2 * 39) = 1059 ∧ pulseAt State.reset.cfg 1 (3 + 2 * 39) = 458 := by
  decide

theorem test_witness_StepRunsTheDecodedInstruction :
    (facing [.regWrite 0x18 14]).host.pending = .regWrite 0x18 14 :: [] ∧ decode .op [14] = .ok .fenc ∧
      (facing [.regWrite 0x30 0x1FFFF]).host.pending = .regWrite 0x30 0x1FFFF :: [] ∧
      decode .port17 [0x1FFFF] = .ok (.portword true 65535) ∧
      (facing [.present .errcode [3]]).host.pending = .present .errcode [3] :: [] ∧
      decode .errcode [3] = .ok .errLengthMismatch := by decide

theorem test_witness_TableWordRunsNext :
    decodeTableWord 8 7 = some .sreset ∧ decodeTableWord 24 0x1FFFF = some (.portword true 65535) ∧
      decodeTableWord 40 0xFFFFFFFFFF = some (.frame40 0xFFFFFF 15 15 0xFF) := by decide

theorem test_witness_CommandWriteSelectsByLowThreeBits :
    0 % 8 = 0 ∧ 9 % 8 = 1 ∧ 2 % 8 = 2 ∧ 11 % 8 = 3 ∧ 4 % 8 = 4 ∧ 5 % 8 = 5 ∧ 14 % 8 = 6 ∧ 15 % 8 = 7 ∧
      (facing [.regWrite 0x18 15]).host.pending = .regWrite 0x18 15 :: [] := by decide

theorem test_witness_NothingHappensWithoutAnEvent : State.reset.host.pending = [] := by decide

theorem test_witness_EveryEventIsDefinedInEveryState :
    (facing [.reset]).host.pending = .reset :: [] ∧
      ∀ (f : Format) (ws : List Nat), HostEvent.reset ≠ .present f ws := ⟨by decide, fun _ _ h => by cases h⟩

theorem test_witness_ReadChangesNothingOfTheBlock :
    Reg.rxBits ≠ .txData ∧ (facing [.regRead 0x26]).host.pending = .regRead Reg.rxBits.num :: [] := by decide

theorem test_witness_UnmappedNumbersReadZeroAndIgnoreWrites :
    (∀ r : Reg, 0x0E ≠ r.num ∧ 0x17 ≠ r.num ∧ 0x1C ≠ r.num ∧ 0x2F ≠ r.num ∧ 0x32 ≠ r.num) ∧
      (facing [.regRead 0x0E]).host.pending = .regRead 0x0E :: [] ∧
      (facing [.regWrite 0x32 1]).host.pending = .regWrite 0x32 1 :: [] := ⟨fun r => by cases r <;> decide, by decide, by decide⟩

theorem test_witness_ConfigurationIsLockedWhileBusy_idle :
    Reg.ckCtrl.isConfig = true ∧
      (facing [.regWrite 0x0D 0x1FFFF]).host.pending = .regWrite Reg.ckCtrl.num 0x1FFFF :: [] ∧
      (facing [.regWrite 0x0D 0x1FFFF]).rx.phase = .idle ∧
      (facing [.regWrite 0x0D 0x1FFFF]).flags.txBusy = false := by
  decide

theorem test_witness_ConfigurationIsLockedWhileBusy_rx :
    Reg.shortMin.isConfig = true ∧
      (before [.regWrite 0 5] (rxAt .bits .bit)).host.pending = .regWrite Reg.shortMin.num 5 :: [] ∧
      (before [.regWrite 0 5] (rxAt .bits .bit)).rx.phase ≠ .idle := by decide

theorem test_witness_ConfigurationIsLockedWhileBusy_tx :
    Reg.tGap.isConfig = true ∧ (before [.regWrite 12 5] (txAt 82)).host.pending = .regWrite Reg.tGap.num 5 :: [] ∧
      (before [.regWrite 12 5] (txAt 82)).flags.txBusy = true := by decide

theorem test_witness_AccessKindsAreKept_readOnly :
    Reg.txData ∈ [Reg.resCat, .resCk, .rxStatus, .rxRemote, .rxChannel, .rxCommand, .rxChecksum, .rxExpected, .rxBits,
      .txData] ∧ (facing [.regWrite 0x31 7]).host.pending = .regWrite Reg.txData.num 7 :: [] := by decide

theorem test_witness_AccessKindsAreKept_status :
    0x10F % 256 < 16 ∧ (facing [.regWrite 0x19 0x10F]).host.pending = .regWrite 0x19 0x10F :: [] := by decide

theorem test_witness_AccessKindsAreKept_writeOnly :
    (facing [.regRead 0x18]).host.pending = .regRead 0x18 :: [] ∧
      (facing [.regRead 0x30]).host.pending = .regRead 0x30 :: [] := by decide

theorem test_witness_AccessKindsAreKept_operand :
    Reg.fChecksum.isOperand = true ∧
      (facing [.regWrite 0x14 256]).host.pending = .regWrite Reg.fChecksum.num 256 :: [] := by
  decide

theorem test_witness_StatusWriteClearsTheStickyBitsWritten :
    (facing [.regWrite 0x19 0xF0]).host.pending = .regWrite 0x19 0xF0 :: [] := by decide

theorem test_witness_ResetEventGivesTheResetState : (before [.reset] (txAt 5)).host.pending = .reset :: [] := by
  decide

/-- OP_DUR lies in the windows named, at reset: SHORT, LONG, SYNC, GAP. -/
def windowsHit (d : Duration) : List Bool :=
  let s := sample.withOpr { sample.opr with opDur := d }
  [inWindow s.cfg.shortMin s.cfg.shortMax s.opr.opDur.toNat, inWindow s.cfg.longMin s.cfg.longMax s.opr.opDur.toNat,
    inWindow s.cfg.syncMin s.cfg.syncMax s.opr.opDur.toNat, inWindow s.cfg.gapMin s.cfg.gapMax s.opr.opDur.toNat]

theorem test_witness_ClassifyWritesTheFirstMatchingWindow :
    windowsHit 420 = [true, false, false, false] ∧ windowsHit 510 = [true, false, false, false] ∧
      windowsHit 1110 = [false, true, false, false] ∧ windowsHit 2370 = [false, false, true, false] ∧
      windowsHit 2400 = [false, false, true, false] ∧ windowsHit 7500 = [false, false, false, true] ∧
      windowsHit 0 = [false, false, false, false] ∧ windowsHit 65535 = [false, false, false, false] := by decide

theorem test_witness_ResetWindowsGiveTheCategoryTable :
    [0, 419, 420, 510, 511, 1049, 1050, 1110, 1111, 2369, 2370, 2400, 2401, 6499, 6500, 7500, 7501, 65535].map
      (fun d => (classify State.reset.cfg d).code.toNat) = [0, 0, 1, 1, 0, 0, 2, 2, 0, 0, 3, 3, 0, 0, 4, 4, 0, 0] := by
  decide

theorem test_witness_CksumFollowsTheChecksumMode :
    sample.cfg.ckCtrl.getLsbD 0 = false ∧
      (let s := sample.withCfg { sample.cfg with ckCtrl := 1 }
       s.cfg.ckCtrl.getLsbD 0 = true ∧ s.opr.fRemote = 0x98461A ∧ s.opr.fChannel = 4 ∧ s.opr.fCommand = 3) := by
  decide

theorem test_witness_AcceptedReceiveCommandsArmTheEngine : (txAt 9).rx.phase = .idle := by decide

theorem test_witness_CommandsForABusyEngineAreRefused :
    (rxAt .flush .dur).rx.phase ≠ .idle ∧ (txAt 0).rx.phase = .idle ∧ (txAt 0).flags.txBusy = true ∧
      (rxAt .hunt .cat).flags.txBusy = false := by decide

theorem test_witness_AcceptedFencLatchesTheFrameWord : sample.flags.txBusy = false := by decide

theorem test_witness_TransmittedChecksumIsNeverStale :
    sample.flags.txBusy = false ∧ 7 < 8 ∧ sample.opr.fChecksum ≠ 0x32 := by decide

theorem test_witness_SampleWhileIdleIsDropped : (txAt 4).rx.phase = .idle := by decide

theorem test_witness_HuntSkipsUntilTheSync :
    (rxAt .hunt .cat).rx.phase = .hunt ∧ SampleHasCategory (rxAt .hunt .cat) 7 .unknown ∧
      (rxAt .hunt .dur).rx.phase = .hunt ∧ SampleHasCategory (rxAt .hunt .dur) 2400 .sync := by decide

theorem test_witness_FirstPulseOfAPairIsHeld :
    (rxAt .data .dur).rx.phase = .data ∧ (rxAt .data .dur).rx.half = false ∧ Category.sync ≠ .gap ∧
      SampleHasCategory (rxAt .data .dur) 2370 .sync := by decide

theorem test_witness_GapAmongTheDataIsUnexpectedLength :
    (rxHeld .cat 1).rx.phase = .data ∧ SampleHasCategory (rxHeld .cat 1) 4 .gap ∧
      SampleHasCategory (rxHeld .dur 1) 7500 .gap := by decide

theorem test_witness_SecondPulseMakesABitOrAnError :
    (rxHeld .cat 1).rx.phase = .data ∧ (rxHeld .cat 1).rx.half = true ∧ Category.long ≠ .gap ∧
      SampleHasCategory (rxHeld .cat 1) 2 .long ∧ (rxHeld .cat 1).rx.first = 1 ∧
      SampleHasCategory (rxHeld .dur 2) 420 .short ∧ (rxHeld .dur 2).rx.first = 2 ∧
      SampleHasCategory (rxHeld .cat 2) 2 .long ∧ ¬((rxHeld .cat 2).rx.first = 1 ∧ Category.long = .long) ∧
      ¬((rxHeld .cat 2).rx.first = 2 ∧ Category.long = .short) := by decide

theorem test_witness_TailPulseSettlesTheBurst :
    (rxCount .tail .cat 40).rx.phase = .tail ∧ SampleHasCategory (rxCount .tail .cat 40) 4 .gap ∧
      SampleHasCategory (rxCount .tail .dur 40) 510 .short := by decide

theorem test_witness_FlushIgnoresSamples : (rxAt .flush .cat).rx.phase = .flush := by decide

theorem test_witness_BitPhaseCollectsFortyBits :
    (rxCount .bits .bit 39).rx.phase = .bits ∧ (rxCount .bits .bit 39).rx.mode = .bit ∧
      (rxCount .bits .bit 39).rx.cnt.toNat < 40 ∧ (rxCount .bits .bit 40).rx.cnt.toNat = 40 ∧
      (rxCount .bits .bit 41).rx.cnt.toNat ≤ 41 := by decide

theorem test_witness_LastSampleWritesTheResults :
    (rxCount .bits .bit 39).rx.phase ≠ .idle ∧ (rxAt .hunt .dur).rx.phase ≠ .idle := by decide

theorem test_witness_SequencerComputesBitDecode : State.reset.rx.phase = .idle ∧ [(3 : Duration)] ≠ [] := by decide

theorem test_witness_RxburstComputesRxDecode : (txAt 82).rx.phase = .idle ∧ [(2400 : Duration), 7000] ≠ [] := by
  decide

theorem test_witness_FdecComputesFrameParse :
    State.reset.rx.phase = .idle ∧ List.replicate 40 (1 : Duration) ≠ [] := by decide

theorem test_witness_BurstOutcomeIgnoresEverythingElse :
    sample ≠ txAt 5 ∧ sample.cfg = (txAt 5).cfg ∧ sample.rx.phase = .idle ∧ (txAt 5).rx.phase = .idle ∧
      [(4 : Duration)] ≠ [] := by decide

theorem test_witness_CategoryCodesEnterThePair :
    (rxAt .data .cat).rx.phase = .data ∧ (rxAt .data .cat).rx.mode = .cat ∧ (rxAt .data .cat).rx.half = false := by
  decide

theorem test_witness_DataSymbolsShiftTheirBitIn :
    (rxAt .data .cat).rx.phase = .data ∧ (rxAt .data .cat).rx.half = false ∧ PulseIsRead (rxAt .data .cat) .short ∧
      PulseIsRead (rxAt .data .cat) .long ∧ (rxAt .data .dur).rx.phase = .data ∧ (rxAt .data .dur).rx.half = false ∧
      PulseIsRead (rxAt .data .dur) .short ∧ PulseIsRead (rxAt .data .dur) .long := by decide

theorem test_witness_MalformedSymbolsRaiseTheirError :
    (Instr.badpair .gap .gap).wellFormed = true ∧ (Instr.badpair .sync .gap).wellFormed = true ∧
      (Instr.badpair .unknown .long).wellFormed = true ∧ (rxAt .data .dur).rx.phase = .data ∧
      (rxAt .data .dur).rx.half = false ∧ PulseIsRead (rxAt .data .dur) .gap ∧ PulseIsRead (rxAt .data .dur) .sync ∧
      PulseIsRead (rxAt .data .dur) .unknown ∧ PulseIsRead (rxAt .data .dur) .long := by decide

theorem test_witness_StructurePulsesMoveTheFramer :
    (rxAt .hunt .dur).rx.phase = .hunt ∧ Category.gap ≠ .sync ∧ (rxAt .hunt .dur).rx.mode = .dur ∧
      classify (rxAt .hunt .dur).cfg (rxAt .hunt .dur).cfg.tPreamble.toNat ≠ .sync ∧
      PulseIsRead (rxAt .hunt .dur) .sync ∧
      (rxCount .tail .cat 40).rx.phase = .tail ∧ PulseIsRead (rxCount .tail .cat 40) .gap := by decide

theorem test_witness_FrameWordIsParsedIntoItsFields :
    (rxAt .bits .bit).rx.phase = .bits ∧ (rxAt .bits .bit).rx.mode = .bit ∧ (rxAt .bits .bit).rx.cnt = 0 ∧
      (rxAt .bits .bit).rx.err = .noError ∧ (rxAt .bits .bit).rx.gap = false := by decide

theorem test_witness_TrainDecodesToItsFrameWord :
    Category.gap ≠ .sync ∧ (rxAt .hunt .cat).rx.phase = .hunt ∧ (rxAt .hunt .cat).rx.half = false ∧
      (rxAt .hunt .cat).rx.cnt = 0 ∧ (rxAt .hunt .cat).rx.err = .noError ∧ (rxAt .hunt .cat).rx.gap = false ∧
      (rxAt .hunt .cat).rx.mode = .cat ∧ (rxAt .hunt .dur).rx.mode = .dur ∧ LoopCompatible (rxAt .hunt .dur).cfg := by
  decide

theorem test_witness_ErrorCodesAreTakenWhereTheyArise :
    (rxAt .data .cat).rx.phase = .data ∧ (rxAt .tail .cat).rx.phase = .tail ∧ (rxAt .hunt .dur).rx.phase = .hunt ∧
      (rxAt .bits .bit).rx.phase = .bits ∧ (rxAt .flush .cat).rx.phase ≠ .data := by decide

theorem test_witness_PopReturnsThePulseAndAdvances :
    (before [.regRead 0x31] (txAt 81)).host.pending = .regRead 0x31 :: [] ∧ (txAt 81).flags.txBusy = true ∧
      (txAt 81).tx.idx.toNat < 82 ∧ (before [.regRead 0x31] (txAt 82)).host.pending = .regRead 0x31 :: [] ∧
      (txAt 82).tx.idx.toNat = 82 := by decide

theorem test_witness_PopWhileIdleReturnsZero :
    (before [.regRead 0x31] (rxAt .data .cat)).host.pending = .regRead 0x31 :: [] ∧
      (rxAt .data .cat).flags.txBusy = false := by decide

theorem test_witness_TxframeReturnsTheWholeTrain : (rxAt .data .cat).flags.txBusy = false := by decide

theorem test_witness_EveryTrainHasTheSameShape : State.reset.cfg.tShort ≠ State.reset.cfg.tLong := by decide

theorem test_witness_SentFrameIsReceivedUnchanged : (txAt 3).rx.phase = .idle ∧ LoopCompatible (txAt 3).cfg := by
  decide

theorem test_witness_EveryStepKeepsTheInvariant :
    BlockInv (facing [.regWrite 0x18 6]) ∧
      step (facing [.regWrite 0x18 6]) = .next (startTx State.reset) :=
  ⟨⟨by decide, by decide, by decide, by decide, by decide, by decide, by decide, by decide, by decide, by decide,
    by decide⟩, rfl⟩

theorem test_witness_ConfigurationChangesOnlyWhenWrittenOrReset :
    (After (step (facing [.regWrite 0 5])) (fun t => t.cfg ≠ State.reset.cfg) = true) ∧
      (After (step (before [.reset] (State.reset.withCfg { State.reset.cfg with tGap := 0 })))
        (fun t => t.cfg ≠ { State.reset.cfg with tGap := 0 }) = true) := by decide

end Sys2Proof.Machine.Tests
end

section
/-! PROOFS. The statements of 00_scope.md: a block without an event stays as it is (R7), and the receive and transmit
streams do not disturb each other (R8). -/

namespace Sys2Proof.Machine

/-! ### What the receive port reads: configuration, the RX engine and its results

One congruence per operation: states that agree on these parts agree on them afterwards. -/

section Congruence
variable {s t : State}

theorem stepHunt_rx_congr (c : Category) (hr : s.rx = t.rx) : (stepHunt c s).rx = (stepHunt c t).rx := by
  unfold stepHunt
  split <;> simp [hr]

theorem stepSecond_rx_congr (c : Category) (hr : s.rx = t.rx) : (stepSecond c s).rx = (stepSecond c t).rx := by
  unfold stepSecond
  rw [hr]
  split <;> simp [collectBit, raiseErr, hr]

theorem stepData_rx_congr (c : Category) (hr : s.rx = t.rx) : (stepData c s).rx = (stepData c t).rx := by
  unfold stepData
  rw [hr]
  split
  · simp [raiseErr, hr]
  · split
    · exact stepSecond_rx_congr c hr
    · simp [stepFirst, hr]

theorem stepTail_rx_congr (c : Category) (hr : s.rx = t.rx) : (stepTail c s).rx = (stepTail c t).rx := by
  unfold stepTail
  split <;> simp [raiseErr, hr]

theorem stepCategory_rx_congr (c : Category) (hr : s.rx = t.rx) :
    (stepCategory c s).rx = (stepCategory c t).rx := by
  unfold stepCategory
  rw [hr]
  split
  case h_2 => exact stepHunt_rx_congr c hr
  case h_3 => exact stepData_rx_congr c hr
  case h_4 => exact stepTail_rx_congr c hr
  all_goals exact hr

theorem stepBit_rx_congr (b : Bool) (hr : s.rx = t.rx) : (stepBit b s).rx = (stepBit b t).rx := by
  unfold stepBit
  rw [hr]
  split <;> simp [stepBits, hr]

/-- The sequencer reads the configuration and the RX engine alone (41_bitdecoder.md R144 to R149). -/
theorem stepSample_rx_congr (v : Duration) (hc : s.cfg = t.cfg) (hr : s.rx = t.rx) :
    (stepSample v s).rx = (stepSample v t).rx := by
  unfold stepSample
  rw [hr, hc]
  split
  · exact stepCategory_rx_congr _ hr
  · exact stepCategory_rx_congr _ hr
  · exact stepBit_rx_congr _ hr

theorem endCheck_rx_congr (hr : s.rx = t.rx) : (endCheck s).rx = (endCheck t).rx := by
  unfold endCheck
  rw [hr]
  split
  case h_1 | h_2 | h_3 => split <;> simp [recordErr, hr]
  all_goals exact hr

theorem goodResults_congr (hc : s.cfg = t.cfg) (hr : s.rx = t.rx) : goodResults s = goodResults t := by
  simp [goodResults, hc, hr]

theorem badResults_congr (hr : s.rx = t.rx) (hx : s.rxRes = t.rxRes) : badResults s = badResults t := by
  simp [badResults, hr, hx]

/-- The engine and its results before finalisation, for the last sample of a burst. -/
theorem endCheck_stepSample_rx_congr (v : Duration) (hc : s.cfg = t.cfg) (hr : s.rx = t.rx) :
    (endCheck (stepSample v s)).rx = (endCheck (stepSample v t)).rx :=
  endCheck_rx_congr (stepSample_rx_congr v hc hr)

theorem rxBusy_congr (hr : s.rx = t.rx) : s.rxBusy = t.rxBusy := by simp [State.rxBusy, hr]

theorem rxPush_rx_congr (v : Duration) (last : Bool) (hc : s.cfg = t.cfg) (hr : s.rx = t.rx) :
    (rxPush v last s).rx = (rxPush v last t).rx := by
  unfold rxPush
  rw [rxBusy_congr hr]
  split
  · split
    · simp [endCheck_stepSample_rx_congr v hc hr]
    · exact stepSample_rx_congr v hc hr
  · exact hr

theorem rxPush_rxRes_congr (v : Duration) (last : Bool) (hc : s.cfg = t.cfg) (hr : s.rx = t.rx)
    (hx : s.rxRes = t.rxRes) : (rxPush v last s).rxRes = (rxPush v last t).rxRes := by
  unfold rxPush
  rw [rxBusy_congr hr]
  split
  · split
    · have he := endCheck_stepSample_rx_congr v hc hr
      rw [finishBurst_rxRes, finishBurst_rxRes, he, goodResults_congr (by simpa using hc) he,
        badResults_congr he (by simpa using hx)]
    · simpa using hx
  · exact hx

/-! ### What the transmit port reads: configuration, the TX engine and tx_busy -/

theorem popWord_congr (hc : s.cfg = t.cfg) (ht : s.tx = t.tx) (hb : s.flags.txBusy = t.flags.txBusy) :
    popWord s = popWord t := by
  unfold popWord State.txBusy
  rw [hb, hc, ht]

theorem popState_tx_congr (ht : s.tx = t.tx) (hb : s.flags.txBusy = t.flags.txBusy) :
    (popState s).tx = (popState t).tx := by
  unfold popState State.txBusy
  rw [hb, ht]
  split
  · split <;> rfl
  · exact ht

end Congruence

/-! ### The STATUS bits of the two ports are apart -/

/-- A pushed sample sets rx_done at the end of a burst and rx_ovr when dropped, and no other bit
(20_memory.md R66, R67). -/
theorem rxPush_flags (v : Duration) (last : Bool) (s : State) :
    (rxPush v last s).flags =
      { s.flags with
        rxDone := s.flags.rxDone || (s.rxBusy && last)
        rxOvr := s.flags.rxOvr || !s.rxBusy } := by
  cases hb : s.rxBusy <;> cases last <;> simp [rxPush, hb, setRxOvr]

/-- A pop ends the train after pulse 82 or sets tx_udr when idle, and changes no other bit (44_framecodec_encode.md
R196, 20_memory.md R69). -/
theorem popState_flags (s : State) :
    (popState s).flags =
      { s.flags with
        txBusy := s.flags.txBusy && decide (s.tx.idx.toNat < 82)
        txDone := s.flags.txDone || (s.flags.txBusy && !decide (s.tx.idx.toNat < 82))
        txUdr := s.flags.txUdr || !s.flags.txBusy } := by
  by_cases hb : s.flags.txBusy = true
  · by_cases hk : s.tx.idx.toNat < 82
    · rw [popState_more hb hk]
      cases hf : s.flags
      simp_all
    · simp [popState_last hb hk, hb, hk]
  · simp [popState_idle (eq_false_of_ne_true hb), setTxUdr, hb]

@[simp] theorem popRead_flags (s : State) : (popRead s).flags = (popState s).flags := rfl
@[simp] theorem popRead_tx (s : State) : (popRead s).tx = (popState s).tx := rfl

theorem popRead_host (s : State) :
    (popRead s).host = { s.host with returned := s.host.returned ++ [(popWord s).setWidth 40] } := by
  simp [popRead, logRead]

/-! ### The operations of the two ports commute (00_scope.md R8) -/

theorem popRead_rxPush (v : Duration) (last : Bool) (s : State) :
    popRead (rxPush v last s) = rxPush v last (popRead s) := by
  have htx : (rxPush v last s).tx = s.tx := rxPush_tx v last s
  have hbusy : (rxPush v last s).flags.txBusy = s.flags.txBusy := by rw [rxPush_flags]
  have hrx : (popRead s).rx = s.rx := popRead_rx s
  refine State.eq_of_parts ?cfg ?opr ?flags ?resCat ?resCk ?rxRes ?rx ?tx ?host
  case flags => simp [popState_flags, rxPush_flags, rxBusy_congr hrx]
  case rxRes => simpa using (rxPush_rxRes_congr v last (popRead_cfg s) hrx (popRead_rxRes s)).symm
  case rx => simpa using (rxPush_rx_congr v last (popRead_cfg s) hrx).symm
  case tx => simpa using popState_tx_congr htx hbusy
  case host => simp [popRead_host, popWord_congr (rxPush_cfg v last s) htx hbusy]
  all_goals simp

/-! ### Neither port reads the events lined up behind its own (log entry 1) -/

@[simp] theorem lineUp_nil (s : State) : lineUp [] s = s := rfl

section LineUp
variable (es : List HostEvent) (s : State)

@[simp] theorem lineUp_cfg : (lineUp es s).cfg = s.cfg := rfl
@[simp] theorem lineUp_opr : (lineUp es s).opr = s.opr := rfl
@[simp] theorem lineUp_flags : (lineUp es s).flags = s.flags := rfl
@[simp] theorem lineUp_resCat : (lineUp es s).resCat = s.resCat := rfl
@[simp] theorem lineUp_resCk : (lineUp es s).resCk = s.resCk := rfl
@[simp] theorem lineUp_rxRes : (lineUp es s).rxRes = s.rxRes := rfl
@[simp] theorem lineUp_rx : (lineUp es s).rx = s.rx := rfl
@[simp] theorem lineUp_tx : (lineUp es s).tx = s.tx := rfl
theorem lineUp_host : (lineUp es s).host = { s.host with pending := es ++ s.host.pending } := rfl

theorem rxPush_lineUp (v : Duration) (last : Bool) :
    rxPush v last (lineUp es s) = lineUp es (rxPush v last s) := by
  have hrx : (lineUp es s).rx = s.rx := lineUp_rx es s
  refine State.eq_of_parts ?cfg ?opr ?flags ?resCat ?resCk ?rxRes ?rx ?tx ?host
  case flags => simp [rxPush_flags, rxBusy_congr hrx]
  case rxRes => simpa using rxPush_rxRes_congr v last (lineUp_cfg es s) hrx (lineUp_rxRes es s)
  case rx => simpa using rxPush_rx_congr v last (lineUp_cfg es s) hrx
  case host => simp [lineUp_host]
  all_goals simp

theorem popRead_lineUp : popRead (lineUp es s) = lineUp es (popRead s) := by
  have htx : (lineUp es s).tx = s.tx := lineUp_tx es s
  have hbusy : (lineUp es s).flags.txBusy = s.flags.txBusy := by rw [lineUp_flags]
  refine State.eq_of_parts ?cfg ?opr ?flags ?resCat ?resCk ?rxRes ?rx ?tx ?host
  case flags =>
    rw [lineUp_flags, popRead_flags, popRead_flags, popState_flags, popState_flags, lineUp_flags, lineUp_tx]
  case tx => simpa using popState_tx_congr htx hbusy
  case host => simp [lineUp_host, popRead_host, popWord_congr (lineUp_cfg es s) htx hbusy]
  all_goals simp

end LineUp

/-! ### Steps over events lined up -/

theorem step_lineUp (e : HostEvent) (es : List HostEvent) (s : State) :
    step (lineUp (e :: es) s) = performEvent e (lineUp es s) := rfl

theorem step_push (v : Nat) (es : List HostEvent) (s : State) :
    step (lineUp (.regWrite 0x30 v :: es) s) =
      .next (lineUp es (rxPush (BitVec.ofNat 16 v) (v.testBit 16) s)) := by
  rw [step_lineUp, ← rxPush_lineUp es s]
  exact hostWrite_rxData v (lineUp es s)

theorem step_pop (es : List HostEvent) (s : State) :
    step (lineUp (.regRead 0x31 :: es) s) = .next (lineUp es (popRead s)) := by
  rw [step_lineUp, ← popRead_lineUp]
  rfl

theorem run_succ_of_step {s t : State} (k : Nat) (h : step s = .next t) :
    Host.Core.run core (k + 1) s = Host.Core.run core k t := by
  have hcore : core.step s = .next t := h
  simp [Host.Core.run, hcore]

theorem run_push_pop (s : State) (v : Nat) :
    Host.Core.run core 2 (lineUp [.regWrite 0x30 v, .regRead 0x31] s) =
      .next (popRead (rxPush (BitVec.ofNat 16 v) (v.testBit 16) s)) := by
  rw [run_succ_of_step 1 (step_push v _ s), run_succ_of_step 0 (step_pop [] _)]
  rfl

theorem run_pop_push (s : State) (v : Nat) :
    Host.Core.run core 2 (lineUp [.regRead 0x31, .regWrite 0x30 v] s) =
      .next (rxPush (BitVec.ofNat 16 v) (v.testBit 16) (popRead s)) := by
  rw [run_succ_of_step 1 (step_pop _ s), run_succ_of_step 0 (step_push v [] _)]
  rfl

/-! ### The statements -/

/-- Settles O56: both orders end in `popRead` after `rxPush`, which commute. -/
theorem pushAndPopCommute : Obligations.PushAndPopCommute := by
  intro s v
  rw [run_push_pop, run_pop_push, popRead_rxPush]

/-- Settles O10, by the model's equation for a step with nothing lined up. -/
theorem nothingHappensWithoutAnEvent : Obligations.NothingHappensWithoutAnEvent :=
  fun _ h => step_nil h

end Sys2Proof.Machine
end

section
/-! PROOFS. The statements of 10_state.md: the invariant of R43 holds at reset and every step keeps it, the
configuration is written only where R43 item 11 allows it, and what the registers are and read as (R21 to R29). -/

namespace Sys2Proof.Machine

/-! ### The invariant, part by part

Each operation writes the parts of one engine alone, so the invariant is taken apart along the engines. Within the RX
engine it is read off by phase, and for the results by how the last burst ended. -/

/-- What each phase says of the rest of the RX engine (10_state.md R33, R43 item 10). -/
def PhaseFits (e : RxEngine) : Prop :=
  match e.phase with
  | .idle => True
  | .hunt => e.mode ≠ .bit ∧ e.err = .noError ∧ e.cnt = 0 ∧ e.half = false
  | .data => e.mode ≠ .bit ∧ e.err = .noError ∧ e.cnt.toNat < 40
  | .tail => e.mode ≠ .bit ∧ e.err = .noError ∧ e.cnt = 40
  | .flush => e.mode ≠ .bit ∧ (e.err ≠ .noError ∨ (e.cnt = 40 ∧ e.gap = true))
  | .bits => e.mode = .bit ∧ e.err = .noError

/-- The RX engine by itself: its phase fits, and its count and held code are in range (10_state.md R36). -/
structure EngineInv (e : RxEngine) : Prop where
  phaseFits : PhaseFits e
  cnt_le : e.cnt.toNat ≤ 41
  first_le : e.first.toNat ≤ 4

/-- The three ways rx_done and the result registers can stand: cleared by the last RX command, left by a bad burst, or
left by a good one (10_state.md R43 items 2 to 7). -/
inductive ResultsInv : Bool → RxResults → Prop where
  | cleared : ResultsInv false .zero
  | failed {e : ErrCode} (he : e ≠ .noError) : ResultsInv true { RxResults.zero with err := e }
  | good {x : RxResults} (hok : x.ok = true) (herr : x.err = .noError)
      (hbits : x.bits = frameOf x.remote x.channel x.command x.checksum)
      (hvalid : x.ckValid = decide (x.checksum = x.expected)) : ResultsInv true x

/-- The receive side: the engine, the results, and rx_done tied to IDLE (10_state.md R43 items 1 to 7 and 10). -/
structure RxInv (s : State) : Prop where
  engine : EngineInv s.rx
  results : ResultsInv s.flags.rxDone s.rxRes
  doneIdle : DoneOnlyWhenIdle s

/-- The transmit side (10_state.md R43 items 8 and 9). -/
structure TxInv (s : State) : Prop where
  train : TrainIndexInRange s
  busyNotDone : BusyIsNotDone s

/-- The invariant of the block, by the parts that operations write. -/
structure PartsInv (s : State) : Prop where
  rx : RxInv s
  tx : TxInv s
  ckCtrl : s.cfg.ckCtrl &&& 0x00FE = 0
  resCat : s.resCat.toNat ≤ 4

theorem phaseFits_iff (e : RxEngine) :
    PhaseFits e ↔
      (e.phase = .hunt ∨ e.phase = .data → e.err = .noError) ∧
        (e.phase = .tail → e.cnt = 40 ∧ e.err = .noError) ∧
        (e.phase = .data → e.cnt.toNat < 40) ∧
        (e.phase = .hunt → e.cnt = 0 ∧ e.half = false) ∧
        (e.phase = .bits → e.mode = .bit ∧ e.err = .noError) ∧
        (e.phase = .hunt ∨ e.phase = .data ∨ e.phase = .tail ∨ e.phase = .flush → e.mode ≠ .bit) ∧
        (e.phase = .flush → e.err ≠ .noError ∨ (e.cnt = 40 ∧ e.gap = true)) := by
  unfold PhaseFits
  cases e.phase <;> simp <;> tauto

theorem resultsInv_iff (s : State) :
    ResultsInv s.flags.rxDone s.rxRes ↔
      OkMeansDone s ∧ DoneNamesError s ∧ VerdictsNeedOk s ∧ BitsAreTheFields s ∧ ValidIsTheComparison s ∧
        NoFrameWithoutOk s ∧ (s.flags.rxDone = false → s.rxRes.err = .noError) := by
  unfold OkMeansDone DoneNamesError VerdictsNeedOk BitsAreTheFields ValidIsTheComparison NoFrameWithoutOk
  generalize s.flags.rxDone = done
  generalize s.rxRes = x
  constructor
  · intro h
    cases h with
    | cleared => simp [RxResults.zero, frameOf]
    | failed he => simp [RxResults.zero, frameOf, he]
    | good hok herr hbits hvalid => simp [hok, herr, hbits, hvalid]
  · rintro ⟨hok, hnamed, -, hbits, hvalid, hzero, hcleared⟩
    cases hx : x.ok
    case true =>
      obtain ⟨herr, rfl⟩ := hok hx
      exact .good hx herr hbits (hvalid hx)
    case false =>
      rw [hzero hx]
      cases done
      case true => exact .failed (hnamed ⟨rfl, hx⟩)
      case false =>
        rw [hcleared rfl]
        exact .cleared

theorem blockInv_iff_partsInv (s : State) : BlockInv s ↔ PartsInv s := by
  constructor
  · rintro ⟨hidle, hok, hnamed, hverdict, hbits, hvalid, hzero, htrain, hbusy, ⟨hcollect, htail, hdata⟩,
      hck, hcleared, hhunt, hfdec, hmode, hflush, hcnt, hfirst, hcat⟩
    have hresults := (resultsInv_iff s).2 ⟨hok, hnamed, hverdict, hbits, hvalid, hzero, hcleared⟩
    have hphase := (phaseFits_iff s.rx).2 ⟨hcollect, htail, hdata, hhunt, hfdec, hmode, hflush⟩
    exact ⟨⟨⟨hphase, hcnt, hfirst⟩, hresults, hidle⟩, ⟨htrain, hbusy⟩, hck, hcat⟩
  · rintro ⟨⟨⟨hphase, hcnt, hfirst⟩, hresults, hidle⟩, ⟨htrain, hbusy⟩, hck, hcat⟩
    obtain ⟨hok, hnamed, hverdict, hbits, hvalid, hzero, hcleared⟩ := (resultsInv_iff s).1 hresults
    obtain ⟨hcollect, htail, hdata, hhunt, hfdec, hmode, hflush⟩ := (phaseFits_iff s.rx).1 hphase
    exact ⟨hidle, hok, hnamed, hverdict, hbits, hvalid, hzero, htrain, hbusy, ⟨hcollect, htail, hdata⟩,
      hck, hcleared, hhunt, hfdec, hmode, hflush, hcnt, hfirst, hcat⟩

theorem code_le (c : Category) : c.code.toNat ≤ 4 := by simpa using code_catDecode_le c.code

/-! ### A part that is not written keeps its invariant -/

theorem RxInv.congr {s t : State} (h : RxInv s) (hrx : t.rx = s.rx) (hres : t.rxRes = s.rxRes)
    (hdone : t.flags.rxDone = s.flags.rxDone) : RxInv t where
  engine := hrx ▸ h.engine
  results := by simpa only [hres, hdone] using h.results
  doneIdle := by simpa only [DoneOnlyWhenIdle, hrx, hdone] using h.doneIdle

theorem TxInv.congr {s t : State} (h : TxInv s) (htx : t.tx = s.tx) (hbusy : t.flags.txBusy = s.flags.txBusy)
    (hdone : t.flags.txDone = s.flags.txDone) : TxInv t where
  train := by simpa only [TrainIndexInRange, htx, hbusy] using h.train
  busyNotDone := by simpa only [BusyIsNotDone, hbusy, hdone] using h.busyNotDone

/-! ### The phases of the RX engine, one by one -/

section Phases
variable {e : RxEngine}

theorem phaseFits_hunt (h : e.phase = .hunt) :
    PhaseFits e ↔ e.mode ≠ .bit ∧ e.err = .noError ∧ e.cnt = 0 ∧ e.half = false := by simp [PhaseFits, h]

theorem phaseFits_data (h : e.phase = .data) :
    PhaseFits e ↔ e.mode ≠ .bit ∧ e.err = .noError ∧ e.cnt.toNat < 40 := by simp [PhaseFits, h]

theorem phaseFits_tail (h : e.phase = .tail) :
    PhaseFits e ↔ e.mode ≠ .bit ∧ e.err = .noError ∧ e.cnt = 40 := by simp [PhaseFits, h]

theorem phaseFits_flush (h : e.phase = .flush) :
    PhaseFits e ↔ e.mode ≠ .bit ∧ (e.err ≠ .noError ∨ (e.cnt = 40 ∧ e.gap = true)) := by simp [PhaseFits, h]

theorem phaseFits_bits (h : e.phase = .bits) : PhaseFits e ↔ e.mode = .bit ∧ e.err = .noError := by
  simp [PhaseFits, h]

theorem phaseFits_idle (h : e.phase = .idle) : PhaseFits e := by simp [PhaseFits, h]

end Phases

/-! ### The sequencer keeps the engine's invariant (41_bitdecoder.md R144 to R149) -/

section Sequencer
variable {s : State} (c : Category)

theorem raiseErr_engineInv {e : ErrCode} (h : EngineInv s.rx) (hm : s.rx.mode ≠ .bit) (he : e ≠ .noError) :
    EngineInv (raiseErr e s).rx :=
  ⟨(phaseFits_flush rfl).2 ⟨hm, .inl he⟩, h.cnt_le, h.first_le⟩

theorem stepHunt_engineInv (h : EngineInv s.rx) (hp : s.rx.phase = .hunt) : EngineInv (stepHunt c s).rx := by
  obtain ⟨hmode, herr, hcnt, -⟩ := (phaseFits_hunt hp).1 h.phaseFits
  unfold stepHunt
  split
  · exact ⟨(phaseFits_data rfl).2 ⟨hmode, herr, by simp [hcnt]⟩, h.cnt_le, h.first_le⟩
  · exact h

theorem stepFirst_engineInv (h : EngineInv s.rx) (hp : s.rx.phase = .data) : EngineInv (stepFirst c s).rx :=
  have hfit := (phaseFits_data hp).1 h.phaseFits
  ⟨(phaseFits_data (e := (stepFirst c s).rx) hp).2 hfit, h.cnt_le, code_le c⟩

/-- The 40th bit leads to TAIL with the count at 40; before it the count stays below. -/
theorem collectBit_engineInv (b : Bool) (h : EngineInv s.rx) (hp : s.rx.phase = .data) :
    EngineInv (collectBit b s).rx := by
  obtain ⟨hmode, herr, hlt⟩ := (phaseFits_data hp).1 h.phaseFits
  have hcnt : (s.rx.cnt + 1).toNat = s.rx.cnt.toNat + 1 := BitVec.toNat_add_of_lt (by simp; omega)
  refine ⟨?_, (hcnt.trans_le (by omega) : (s.rx.cnt + 1).toNat ≤ 41), h.first_le⟩
  by_cases h40 : s.rx.cnt + 1 = 40
  · exact (phaseFits_tail (if_pos h40)).2 ⟨hmode, herr, h40⟩
  · have hne : (s.rx.cnt + 1).toNat ≠ 40 := fun hn => h40 (BitVec.eq_of_toNat_eq hn)
    have hlt' : (s.rx.cnt + 1).toNat < 40 := by omega
    exact (phaseFits_data ((if_neg h40).trans hp)).2 ⟨hmode, herr, hlt'⟩

theorem stepSecond_engineInv (h : EngineInv s.rx) (hp : s.rx.phase = .data) : EngineInv (stepSecond c s).rx := by
  obtain ⟨hmode, -, -⟩ := (phaseFits_data hp).1 h.phaseFits
  unfold stepSecond
  split
  · exact collectBit_engineInv _ h hp
  · exact ⟨(phaseFits_flush rfl).2 ⟨hmode, .inl nofun⟩, h.cnt_le, h.first_le⟩

theorem stepData_engineInv (h : EngineInv s.rx) (hp : s.rx.phase = .data) : EngineInv (stepData c s).rx := by
  obtain ⟨hmode, -, -⟩ := (phaseFits_data hp).1 h.phaseFits
  unfold stepData
  split
  · exact raiseErr_engineInv h hmode (by decide)
  · split
    · exact stepSecond_engineInv c h hp
    · exact stepFirst_engineInv c h hp

theorem stepTail_engineInv (h : EngineInv s.rx) (hp : s.rx.phase = .tail) : EngineInv (stepTail c s).rx := by
  obtain ⟨hmode, -, hcnt⟩ := (phaseFits_tail hp).1 h.phaseFits
  unfold stepTail
  split
  · exact ⟨(phaseFits_flush rfl).2 ⟨hmode, .inr ⟨hcnt, rfl⟩⟩, h.cnt_le, h.first_le⟩
  · exact raiseErr_engineInv h hmode (by decide)

theorem stepCategory_engineInv (h : EngineInv s.rx) : EngineInv (stepCategory c s).rx := by
  unfold stepCategory
  split
  case h_2 hp => exact stepHunt_engineInv c h hp
  case h_3 hp => exact stepData_engineInv c h hp
  case h_4 hp => exact stepTail_engineInv c h hp
  all_goals exact h

theorem stepBits_engineInv (b : Bool) (h : EngineInv s.rx) (hp : s.rx.phase = .bits) :
    EngineInv (stepBits b s).rx := by
  have hfit := (phaseFits_bits hp).1 h.phaseFits
  refine ⟨(phaseFits_bits (e := (stepBits b s).rx) hp).2 hfit, ?_, h.first_le⟩
  have hle := h.cnt_le
  simp only [stepBits, State.withRx_rx]
  split
  next hlt =>
    have hcnt : (s.rx.cnt + 1).toNat = s.rx.cnt.toNat + 1 := BitVec.toNat_add_of_lt (by simp; omega)
    omega
  · exact hle

theorem stepBit_engineInv (b : Bool) (h : EngineInv s.rx) : EngineInv (stepBit b s).rx := by
  unfold stepBit
  split
  case h_1 hp => exact stepBits_engineInv b h hp
  all_goals exact h

theorem stepSample_engineInv (v : Duration) (h : EngineInv s.rx) : EngineInv (stepSample v s).rx := by
  unfold stepSample
  split
  · exact stepCategory_engineInv _ h
  · exact stepCategory_engineInv _ h
  · exact stepBit_engineInv _ h

end Sequencer

/-! ### Bursts keep the receive side's invariant -/

theorem ResultsInv.eq_zero {x : RxResults} (h : ResultsInv false x) : x = .zero := by
  cases h
  rfl

/-- While a burst runs, rx_done is 0 and the result registers stand as the command cleared them (45_control.md R212). -/
theorem RxInv.cleared_of_busy {s : State} (h : RxInv s) (hp : s.rx.phase ≠ .idle) :
    s.flags.rxDone = false ∧ s.rxRes = .zero := by
  have hdone : s.flags.rxDone = false := eq_false_of_ne_true fun hd => hp (h.doneIdle hd)
  exact ⟨hdone, (hdone ▸ h.results).eq_zero⟩

/-- A busy engine may take any step that leaves it busy and fit. -/
theorem RxInv.of_busy {s : State} (hp : s.rx.phase ≠ .idle) {e : RxEngine} (h : RxInv s) (he : EngineInv e) :
    RxInv (s.withRx e) where
  engine := he
  results := h.results
  doneIdle hd := absurd (h.doneIdle hd) hp

theorem goodResults_resultsInv (s : State) : ResultsInv true (goodResults s) :=
  .good rfl rfl (frameOf_fields s.rx.sr).symm rfl

/-- The end of a burst leaves results of one of the two kinds, whatever the engine collected
(42_framecodec_decode.md R165). -/
theorem finishBurst_rxInv {s : State} (hclear : s.rxRes = .zero) (hcnt : s.rx.cnt.toNat ≤ 41)
    (hfirst : s.rx.first.toNat ≤ 4) : RxInv (finishBurst s) where
  engine := ⟨phaseFits_idle rfl, hcnt, hfirst⟩
  results := by
    rw [finishBurst_flags, finishBurst_rxRes]
    split
    · exact goodResults_resultsInv s
    next herr =>
      have hbad : badResults s = { RxResults.zero with err := s.rx.err } := by
        simp [badResults, hclear, RxResults.zero]
      exact hbad ▸ .failed herr
  doneIdle _ := rfl

/-- The end-of-burst checks write rx_err alone (41_bitdecoder.md R150, 42_framecodec_decode.md R164). -/
theorem endCheck_rx_eq (s : State) : ∃ e : ErrCode, (endCheck s).rx = { s.rx with err := e } := by
  unfold endCheck
  split
  case h_1 | h_2 | h_3 =>
    split
    · exact ⟨_, rfl⟩
    · exact ⟨s.rx.err, rfl⟩
  all_goals exact ⟨s.rx.err, rfl⟩

theorem rxPush_rxInv {s : State} (v : Duration) (last : Bool) (h : RxInv s) : RxInv (rxPush v last s) := by
  by_cases hp : s.rx.phase = .idle
  · rw [rxPush_idle v last hp]
    exact h.congr rfl rfl rfl
  have hstep := stepSample_engineInv v h.engine
  cases last with
  | false =>
    rw [rxPush_more v hp]
    exact (RxInv.of_busy hp h hstep).congr rfl (by simp) (by simp)
  | true =>
    rw [rxPush_last v hp]
    obtain ⟨e, he⟩ := endCheck_rx_eq (stepSample v s)
    obtain ⟨-, hclear⟩ := h.cleared_of_busy hp
    exact finishBurst_rxInv (by simpa using hclear) (by simpa [he] using hstep.cnt_le)
      (by simpa [he] using hstep.first_le)

theorem armRx_rxInv {m : RxMode} {p : RxPhase} (s : State)
    (hfit : PhaseFits (armRx m p s).rx) : RxInv (armRx m p s) where
  engine := ⟨hfit, by simp, by simp⟩
  results := .cleared
  doneIdle hd := by simp at hd

/-! ### Each operation keeps the invariant of the block -/

section Keeps
variable {s : State}

theorem PartsInv.withHost (h : PartsInv s) (x : HostSide) : PartsInv (s.withHost x) :=
  ⟨h.rx.congr rfl rfl rfl, h.tx.congr rfl rfl rfl, h.ckCtrl, h.resCat⟩

theorem PartsInv.withOpr (h : PartsInv s) (x : OperandRegs) : PartsInv (s.withOpr x) :=
  ⟨h.rx.congr rfl rfl rfl, h.tx.congr rfl rfl rfl, h.ckCtrl, h.resCat⟩

theorem PartsInv.withResCk (h : PartsInv s) (x : BitVec 8) : PartsInv (s.withResCk x) :=
  ⟨h.rx.congr rfl rfl rfl, h.tx.congr rfl rfl rfl, h.ckCtrl, h.resCat⟩

/-- The sticky bits, which the invariant does not speak of, may take any value (10_state.md R27). -/
theorem PartsInv.withFlags (h : PartsInv s) {f : StatusBits} (hbusy : f.txBusy = s.flags.txBusy)
    (hrx : f.rxDone = s.flags.rxDone) (htx : f.txDone = s.flags.txDone) : PartsInv (s.withFlags f) :=
  ⟨h.rx.congr rfl rfl hrx, h.tx.congr rfl hbusy htx, h.ckCtrl, h.resCat⟩

theorem PartsInv.withResCat (h : PartsInv s) (c : Category) : PartsInv (s.withResCat c.code) :=
  ⟨h.rx.congr rfl rfl rfl, h.tx.congr rfl rfl rfl, h.ckCtrl, code_le c⟩

theorem rxPush_keeps (v : Duration) (last : Bool) (h : PartsInv s) : PartsInv (rxPush v last s) :=
  ⟨rxPush_rxInv v last h.rx, h.tx.congr (by simp) (by simp [rxPush_flags]) (by simp [rxPush_flags]),
    by simpa using h.ckCtrl, by simpa using h.resCat⟩

theorem pushPulse_keeps (c : Category) (h : PartsInv s) : PartsInv (pushPulse c s) := rxPush_keeps _ _ h

theorem pushBurst_keeps (vs : List Duration) (h : PartsInv s) : PartsInv (pushBurst vs s) := by
  fun_induction pushBurst vs s with
  | case1 => exact h
  | case2 => exact rxPush_keeps _ true h
  | case3 _ _ _ _ ih => exact ih (rxPush_keeps _ false h)

theorem pushPulses_keeps (cs : List Category) (h : PartsInv s) : PartsInv (pushPulses cs s) := by
  induction cs generalizing s with
  | nil => exact h
  | cons c cs ih => exact ih (pushPulse_keeps c h)

theorem pushUnfit_keeps (f : Format) (ws : List Nat) (h : PartsInv s) : PartsInv (pushUnfit f ws s) := by
  cases f with
  | train => exact pushBurst_keeps _ h
  | symbol p => exact pushPulses_keeps _ h
  | op | pseudo | frame40 | port17 | catcode | errcode => exact h

theorem armRx_keeps {m : RxMode} {p : RxPhase} (hfit : PhaseFits (armRx m p s).rx) (h : PartsInv s) :
    PartsInv (armRx m p s) :=
  ⟨armRx_rxInv s hfit, h.tx.congr rfl rfl rfl, h.ckCtrl, h.resCat⟩

theorem setBusyErr_keeps (h : PartsInv s) : PartsInv (setBusyErr s) := h.withFlags rfl rfl rfl

theorem startRx_keeps {m : RxMode} {p : RxPhase} (hfit : PhaseFits (armRx m p s).rx) (h : PartsInv s) :
    PartsInv (startRx m p s) := by
  unfold startRx
  split
  · exact setBusyErr_keeps h
  · exact armRx_keeps hfit h

theorem startTx_keeps (h : PartsInv s) : PartsInv (startTx s) := by
  unfold startTx
  split
  · exact setBusyErr_keeps h
  · exact ⟨h.rx.congr rfl rfl rfl, ⟨⟨nofun, by simp⟩, fun _ => rfl⟩, h.ckCtrl, h.resCat⟩

theorem popState_txInv (h : TxInv s) : TxInv (popState s) := by
  by_cases hb : s.flags.txBusy = true
  · by_cases hk : s.tx.idx.toNat < 82
    · rw [popState_more hb hk]
      have hidx : (s.tx.idx + 1).toNat = s.tx.idx.toNat + 1 := BitVec.toNat_add_of_lt (by simp; omega)
      have hle : (s.tx.idx + 1).toNat ≤ 82 := by omega
      exact ⟨⟨fun hf => absurd (hb.symm.trans hf) (by decide), hle⟩, h.busyNotDone⟩
    · rw [popState_last hb hk]
      exact ⟨⟨fun _ => rfl, by simp⟩, nofun⟩
  · rw [popState_idle (eq_false_of_ne_true hb)]
    exact h.congr rfl rfl rfl

theorem popRead_keeps (h : PartsInv s) : PartsInv (popRead s) :=
  ⟨h.rx.congr (by simp) (by simp) (by simp [popState_flags]), (popState_txInv h.tx).congr rfl rfl rfl,
    by simpa using h.ckCtrl, by simpa using h.resCat⟩

theorem popReads_keeps (n : Nat) (h : PartsInv s) : PartsInv (popReads n s) := by
  induction n generalizing s with
  | zero => exact h
  | succ n ih => exact ih (popRead_keeps h)

theorem logRead_keeps (v : RegValue) (h : PartsInv s) : PartsInv (logRead v s) := h.withHost _

theorem readRegister_keeps (r : Reg) (h : PartsInv s) : PartsInv (readRegister r s) := by
  unfold readRegister
  split
  · exact popRead_keeps h
  · exact logRead_keeps _ h

/-- A write forces bits 7:1 of CK_CTRL to 0 (10_state.md R24). -/
theorem cfgWrite_ckCtrl {g : CfgRegs} (r : Reg) (v : Nat) (h : g.ckCtrl &&& 0x00FE = 0) :
    (g.write r v).ckCtrl &&& 0x00FE = 0 := by
  cases r
  case ckCtrl =>
    have hmask : (0xFF01 : BitVec 16) &&& 0x00FE = 0#16 := by decide
    simp only [CfgRegs.write]
    rw [BitVec.and_assoc, hmask, BitVec.and_zero]
    rfl
  all_goals exact h

theorem writeReg_keeps (r : Reg) (v : Nat) (h : PartsInv s) : PartsInv (writeReg r v s) := by
  unfold writeReg writeConfig
  split
  · split
    · exact setBusyErr_keeps h
    · exact ⟨h.rx.congr rfl rfl rfl, h.tx.congr rfl rfl rfl, cfgWrite_ckCtrl r v h.ckCtrl, h.resCat⟩
  · split
    · exact h.withOpr _
    · split
      · exact h.withFlags rfl rfl rfl
      · exact h

theorem writePayload_keeps (r : RemoteId) (h c : Nibble) (hs : PartsInv s) : PartsInv (writePayload r h c s) :=
  writeReg_keeps _ _ (writeReg_keeps _ _ (writeReg_keeps _ _ hs))

theorem softReset_keeps (h : PartsInv s) : PartsInv (softReset s) :=
  ⟨(armRx_rxInv s (phaseFits_idle rfl)).congr (t := softReset s) rfl rfl rfl, ⟨⟨fun _ => rfl, Nat.zero_le _⟩, nofun⟩,
    h.ckCtrl, Nat.zero_le _⟩

end Keeps

/-! ### The error rows (60_exceptions.md R224; log entry 6) -/

section ErrorRows
variable {s : State} {e : ErrCode}

theorem raiseErr_keeps (hp : s.rx.phase = .data ∨ s.rx.phase = .tail) (he : e ≠ .noError) (h : PartsInv s) :
    PartsInv (raiseErr e s) := by
  have hm : s.rx.mode ≠ .bit := by
    rcases hp with hp | hp
    · exact ((phaseFits_data hp).1 h.rx.engine.phaseFits).1
    · exact ((phaseFits_tail hp).1 h.rx.engine.phaseFits).1
  have hbusy : s.rx.phase ≠ .idle := by rcases hp with hp | hp <;> simp [hp]
  exact ⟨RxInv.of_busy hbusy h.rx (raiseErr_engineInv h.rx.engine hm he), h.tx.congr rfl rfl rfl, h.ckCtrl, h.resCat⟩

theorem finishBurst_recordErr_keeps (hp : s.rx.phase ≠ .idle) (h : PartsInv s) :
    PartsInv (finishBurst (recordErr e s)) :=
  have hclear : (recordErr e s).rxRes = .zero := (h.rx.cleared_of_busy hp).2
  ⟨finishBurst_rxInv hclear h.rx.engine.cnt_le h.rx.engine.first_le, h.tx.congr rfl rfl rfl, h.ckCtrl, h.resCat⟩

end ErrorRows

/-! ### Every event keeps the invariant -/

/-- The outcome is a next state, and the state has the property. -/
def EndsIn (P : State → Prop) : Host.Outcome State Fault Refusal → Prop
  | .next t => P t
  | .fault _ => False
  | .refused _ => False

theorem EndsIn.of_next {P : State → Prop} {o : Host.Outcome State Fault Refusal} {t : State} (h : EndsIn P o)
    (ho : o = .next t) : P t := by
  subst ho
  exact h

section Events
variable {s : State}

theorem execErrMalformedPulsePair_keeps (h : PartsInv s) : EndsIn PartsInv (execErrMalformedPulsePair s) := by
  unfold execErrMalformedPulsePair
  split
  case h_1 hp => exact raiseErr_keeps (.inl hp) (by decide) h
  all_goals exact h

theorem execErrUnexpectedLength_keeps (h : PartsInv s) : EndsIn PartsInv (execErrUnexpectedLength s) := by
  unfold execErrUnexpectedLength
  split
  case h_1 hp => exact raiseErr_keeps (.inl hp) (by decide) h
  case h_2 hp => exact raiseErr_keeps (.inr hp) (by decide) h
  case h_3 hp => exact finishBurst_recordErr_keeps (by simp [hp]) h
  all_goals exact h

theorem execErrLengthMismatch_keeps (h : PartsInv s) : EndsIn PartsInv (execErrLengthMismatch s) := by
  unfold execErrLengthMismatch
  split
  case h_1 hp => exact finishBurst_recordErr_keeps (by simp [hp]) h
  all_goals exact h

theorem exec_keeps (i : Instr) (h : PartsInv s) : EndsIn PartsInv (exec i s) := by
  cases i with
  | reserved0 => exact h.withFlags rfl rfl rfl
  | classify => exact h.withResCat _
  | rxburst => exact startRx_keeps ((phaseFits_hunt rfl).2 ⟨by simp, rfl, rfl, rfl⟩) h
  | bitdec => exact startRx_keeps ((phaseFits_hunt rfl).2 ⟨by simp, rfl, rfl, rfl⟩) h
  | fdec => exact startRx_keeps ((phaseFits_bits rfl).2 ⟨rfl, rfl⟩) h
  | cksum => exact h.withResCk _
  | fenc => exact startTx_keeps h
  | sreset => exact softReset_keeps h
  | txframe r a c => exact popReads_keeps 83 (startTx_keeps (writePayload_keeps r a c h))
  | validate r a c k =>
    exact (readRegister_keeps .resCk ((writePayload_keeps r a c h).withResCk _)).withHost _
  | frame40 r a c k => exact pushBurst_keeps _ h
  | train p w => exact pushBurst_keeps _ h
  | bit0 | bit1 | badpair a b => exact pushPulse_keeps _ (pushPulse_keeps _ h)
  | sync | endgap => exact pushPulse_keeps _ h
  | preamble c => exact rxPush_keeps _ _ h
  | portword last v => exact rxPush_keeps v last h
  | catUnknown | catShort | catLong | catSync | catGap => exact rxPush_keeps _ _ h
  | errNone => exact h
  | errMalformedPulsePair => exact execErrMalformedPulsePair_keeps h
  | errUnexpectedLength => exact execErrUnexpectedLength_keeps h
  | errLengthMismatch => exact execErrLengthMismatch_keeps h

theorem runWords_keeps (f : Format) (ws : List Nat) (h : PartsInv s) : EndsIn PartsInv (runWords f ws s) := by
  rcases runWords_cases f ws s with ⟨i, -, hrun⟩ | ⟨-, hrun⟩ <;> rw [hrun]
  · exact exec_keeps i h
  · exact pushUnfit_keeps f ws h

/-- What a register write comes to, once: words run at CMD or RX_DATA, a register written, or nothing. -/
theorem hostWrite_cases (n v : Nat) (s : State) :
    (∃ f : Format, hostWrite n v s = runWords f [v] s) ∨
      (∃ r : Reg, regOfNum n = some r ∧ hostWrite n v s = .next (writeReg r v s)) ∨
      hostWrite n v s = .next s := by
  unfold hostWrite
  split
  · exact .inl ⟨_, rfl⟩
  · exact .inl ⟨_, rfl⟩
  next r _ _ hr => exact .inr (.inl ⟨r, hr, rfl⟩)
  · exact .inr (.inr rfl)

theorem hostWrite_keeps (n v : Nat) (h : PartsInv s) : EndsIn PartsInv (hostWrite n v s) := by
  rcases hostWrite_cases n v s with ⟨f, hrun⟩ | ⟨r, -, hrun⟩ | hrun <;> rw [hrun]
  · exact runWords_keeps f [v] h
  · exact writeReg_keeps r v h
  · exact h

theorem hostRead_keeps (n : Nat) (h : PartsInv s) : PartsInv (hostRead n s) := by
  unfold hostRead
  split
  · exact readRegister_keeps _ h
  · exact logRead_keeps _ h

/-- After reset the engines are idle and the results cleared (10_state.md R44). -/
theorem reset_partsInv : PartsInv State.reset where
  rx := ⟨⟨phaseFits_idle rfl, by decide, by decide⟩, .cleared, nofun⟩
  tx := ⟨⟨fun _ => rfl, by decide⟩, nofun⟩
  ckCtrl := by decide
  resCat := by decide

theorem performEvent_keeps (e : HostEvent) (h : PartsInv s) : EndsIn PartsInv (performEvent e s) := by
  cases e with
  | regWrite n v => exact hostWrite_keeps n v h
  | regRead n => exact hostRead_keeps n h
  | reset => exact reset_partsInv.withHost _
  | present f ws => exact runWords_keeps f ws h

theorem step_keeps (h : PartsInv s) : EndsIn PartsInv (step s) := by
  cases hp : s.host.pending with
  | nil =>
    rw [step_nil hp]
    exact h
  | cons e rest =>
    rw [step_cons hp]
    exact performEvent_keeps e (h.withHost _)

end Events

/-- Settles O58: the invariant is kept part by part, by each operation, hence by each event. -/
theorem everyStepKeepsTheInvariant : Obligations.EveryStepKeepsTheInvariant := by
  intro s t hs hstep
  rw [blockInv_iff_partsInv] at hs ⊢
  exact (step_keeps hs).of_next hstep

/-- Settles O57, through the parts of the invariant at reset. -/
theorem resetMeetsTheInvariant : Obligations.ResetMeetsTheInvariant :=
  (blockInv_iff_partsInv _).2 reset_partsInv

/-! ### The register map (10_state.md R21) -/

/-- The 32 registers, in the order of their numbers (10_state.md R21). -/
def allRegs : List Reg :=
  [.shortMin, .shortMax, .longMin, .longMax, .syncMin, .syncMax, .gapMin, .gapMax, .tPreamble, .tSync, .tShort, .tLong,
    .tGap, .ckCtrl, .opDur, .fRemote, .fChannel, .fCommand, .fChecksum, .cmd, .status, .resCat, .resCk, .rxStatus,
    .rxRemote, .rxChannel, .rxCommand, .rxChecksum, .rxExpected, .rxBits, .rxData, .txData]

theorem mem_allRegs (r : Reg) : r ∈ allRegs := by cases r <;> decide

theorem regOfNum_eq_some_iff (n : Nat) (r : Reg) : regOfNum n = some r ↔ n = r.num := by
  constructor
  · intro h
    unfold regOfNum at h
    split at h <;> cases h <;> rfl
  · rintro rfl
    exact regOfNum_num r

/-- Settles O6: the table is the row of each register, in order. -/
theorem registerNumbersAreOneToOne : Obligations.RegisterNumbersAreOneToOne := by
  refine ⟨regOfNum_eq_some_iff, fun n r width => ?_⟩
  change _ ↔ (n, r, width) ∈ allRegs.map fun q => (q.num, q, q.width)
  rw [regOfNum_eq_some_iff, List.mem_map]
  constructor
  · rintro ⟨rfl, rfl⟩
    exact ⟨r, mem_allRegs r, rfl⟩
  · rintro ⟨q, -, hq⟩
    cases hq
    exact ⟨rfl, rfl⟩

/-! ### Where the configuration is written (10_state.md R43 item 11) -/

theorem runWords_cfg {f : Format} {ws : List Nat} {s t : State} (h : runWords f ws s = .next t) : t.cfg = s.cfg := by
  rcases runWords_cases f ws s with ⟨i, -, hrun⟩ | ⟨-, hrun⟩ <;> rw [hrun] at h
  · exact exec_cfg h
  · obtain rfl := Host.Outcome.next.inj h
    exact pushUnfit_cfg f ws s

@[simp] theorem readRegister_cfg (r : Reg) (s : State) : (readRegister r s).cfg = s.cfg := by
  unfold readRegister
  split <;> simp

@[simp] theorem hostRead_cfg (n : Nat) (s : State) : (hostRead n s).cfg = s.cfg := by
  unfold hostRead
  split <;> simp

/-- A register write leaves the configuration alone unless it names a configuration register while both engines are
idle (20_memory.md R64). -/
theorem writeReg_cfg_cases (r : Reg) (v : Nat) (s : State) :
    (writeReg r v s).cfg = s.cfg ∨ (r.isConfig = true ∧ s.rx.phase = .idle ∧ s.flags.txBusy = false) := by
  unfold writeReg writeConfig
  split
  next hr =>
    split
    · exact .inl rfl
    next hfree => exact .inr ⟨hr, by simpa [State.rxBusy, State.txBusy] using hfree⟩
  · split
    · exact .inl rfl
    · split <;> exact .inl rfl

theorem hostWrite_cfg_cases {n v : Nat} {s t : State} (h : hostWrite n v s = .next t) :
    t.cfg = s.cfg ∨
      ∃ r : Reg, n = r.num ∧ r.isConfig = true ∧ s.rx.phase = .idle ∧ s.flags.txBusy = false := by
  rcases hostWrite_cases n v s with ⟨f, hrun⟩ | ⟨r, hr, hrun⟩ | hrun <;> rw [hrun] at h
  · exact .inl (runWords_cfg h)
  · obtain rfl := Host.Outcome.next.inj h
    exact (writeReg_cfg_cases r v s).imp_right fun hfree => ⟨r, (regOfNum_eq_some_iff n r).1 hr, hfree⟩
  · obtain rfl := Host.Outcome.next.inj h
    exact .inl rfl

theorem performEvent_cfg_cases {e : HostEvent} {s t : State} (h : performEvent e s = .next t) :
    t.cfg = s.cfg ∨ e = .reset ∨
      ∃ (r : Reg) (v : Nat), e = .regWrite r.num v ∧ r.isConfig = true ∧ s.rx.phase = .idle ∧
        s.flags.txBusy = false := by
  cases e with
  | regWrite n v =>
    rcases hostWrite_cfg_cases h with hcfg | ⟨r, rfl, hfree⟩
    · exact .inl hcfg
    · exact .inr (.inr ⟨r, v, rfl, hfree⟩)
  | regRead n =>
    obtain rfl := Host.Outcome.next.inj h
    exact .inl (hostRead_cfg n s)
  | reset => exact .inr (.inl rfl)
  | present f ws => exact .inl (runWords_cfg h)

/-- Settles O59: the event at the front of the host's list is the only thing that can write the configuration. -/
theorem configurationChangesOnlyWhenWrittenOrReset : Obligations.ConfigurationChangesOnlyWhenWrittenOrReset := by
  intro s t hstep hne
  cases hp : s.host.pending with
  | nil =>
    rw [step_nil hp] at hstep
    obtain rfl := Host.Outcome.next.inj hstep
    exact absurd rfl hne
  | cons e rest =>
    rw [step_cons hp] at hstep
    rcases performEvent_cfg_cases hstep with hcfg | rfl | ⟨r, v, rfl, hfree⟩
    · exact absurd hcfg hne
    · exact ⟨rest, .inl rfl⟩
    · exact ⟨rest, .inr ⟨r, v, rfl, hfree⟩⟩

/-! ### A write of STATUS (10_state.md R27) -/

theorem clearSticky_flags (v : Nat) (s : State) :
    (clearSticky v s).flags =
      { s.flags with
        illOp := s.flags.illOp && !v.testBit 4
        busyErr := s.flags.busyErr && !v.testBit 5
        rxOvr := s.flags.rxOvr && !v.testBit 6
        txUdr := s.flags.txUdr && !v.testBit 7 } := rfl

/-- Bit by bit: the mask keeps bits 3:0 and clears of bits 7:4 those written as 1. -/
theorem clearSticky_statusWord (v : Nat) (s : State) :
    (clearSticky v s).statusWord = s.statusWord &&& ~~~(BitVec.ofNat 8 v &&& 0xF0) := by
  obtain ⟨b0, b1, b2, b3, b4, b5, b6, b7⟩ := statusWord_bits s
  obtain ⟨c0, c1, c2, c3, c4, c5, c6, c7⟩ := statusWord_bits (clearSticky v s)
  have hbusy : (clearSticky v s).rxBusy = s.rxBusy := rxBusy_congr (clearSticky_rx v s)
  apply BitVec.eq_of_getLsbD_eq
  intro i hi
  rw [BitVec.getLsbD_and, BitVec.getLsbD_not, BitVec.getLsbD_and, BitVec.getLsbD_ofNat]
  interval_cases i <;>
    simp only [b0, b1, b2, b3, b4, b5, b6, b7, c0, c1, c2, c3, c4, c5, c6, c7, hbusy, clearSticky_flags] <;> simp

/-- Settles O17: the write is `clearSticky`, whose word is the old one masked. -/
theorem statusWriteClearsTheStickyBitsWritten : Obligations.StatusWriteClearsTheStickyBitsWritten := by
  intro s v rest hp
  refine ⟨(clearSticky v s).flags, ?_, clearSticky_statusWord v s⟩
  rw [step_cons hp]
  exact hostWrite_eq v _ (regOfNum_num .status) nofun nofun

/-! ### Reset (10_state.md R44) -/

/-- Settles O18: the event is `resetBlock`, which is the reset state beside the host's own side. -/
theorem resetEventGivesTheResetState : Obligations.ResetEventGivesTheResetState := by
  intro s rest hp
  rw [step_cons hp]
  rfl

/-! ### What the registers read as (10_state.md R22 to R31) -/

/-- A word widened to what a read returns keeps its bits. -/
theorem getLsbD_setWidth_regValue {w : Nat} (x : BitVec w) (hw : w ≤ 40) (i : Nat) :
    (x.setWidth 40 : RegValue).getLsbD i = x.getLsbD i := by
  rw [BitVec.getLsbD_setWidth, Bool.and_eq_right_iff_imp, decide_eq_true_iff]
  intro hx
  exact (BitVec.lt_of_getLsbD hx).trans_le hw

theorem readReg_status_getLsbD (s : State) (i : Nat) :
    (readReg .status s).getLsbD i = s.statusWord.getLsbD i := getLsbD_setWidth_regValue _ (by decide) i

theorem readReg_rxStatus_getLsbD (s : State) (i : Nat) :
    (readReg .rxStatus s).getLsbD i = s.rxRes.statusWord.getLsbD i := getLsbD_setWidth_regValue _ (by decide) i

theorem readReg_rxStatus_err (s : State) : (readReg .rxStatus s).extractLsb' 1 2 = s.rxRes.err.code := by
  obtain ⟨-, herr, -⟩ := rxStatusWord_bits s.rxRes
  rw [← herr]
  apply BitVec.eq_of_getLsbD_eq
  intro i hi
  rw [BitVec.getLsbD_extractLsb', BitVec.getLsbD_extractLsb', readReg_rxStatus_getLsbD]

theorem readReg_status_lt (s : State) : (readReg .status s).toNat < 2 ^ 8 :=
  (BitVec.toNat_setWidth_of_le (by decide)).trans_lt s.statusWord.isLt

theorem readReg_rxStatus_lt (s : State) : (readReg .rxStatus s).toNat < 2 ^ 5 :=
  (BitVec.toNat_setWidth_of_le (by decide)).trans_lt s.rxRes.statusWord.isLt

/-- Settles O60: STATUS and RX_STATUS by the bits of their words, every other register by widening its element. -/
theorem registersReadAsTheirElements : Obligations.RegistersReadAsTheirElements := by
  intro s
  obtain ⟨b0, b1, b2, b3, b4, b5, b6, b7⟩ := statusWord_bits s
  obtain ⟨r0, -, r3, r4⟩ := rxStatusWord_bits s.rxRes
  have status := readReg_status_getLsbD s
  have rxStatus := readReg_rxStatus_getLsbD s
  refine ⟨?busy, (status 1).trans b1, (status 2).trans b2, (status 3).trans b3, (status 4).trans b4,
    (status 5).trans b5, (status 6).trans b6, (status 7).trans b7, readReg_status_lt s, (rxStatus 0).trans r0, ?err,
    (rxStatus 3).trans r3, (rxStatus 4).trans r4, readReg_rxStatus_lt s, ?elements⟩
  case busy => rw [status, b0, rxBusy_iff]
  case err =>
    rw [readReg_rxStatus_err]
    cases s.rxRes.err <;> rfl
  case elements => simp [readReg, -BitVec.toNat_setWidth, BitVec.toNat_setWidth_of_le]

end Sys2Proof.Machine
end

section
/-! PROOFS. The statements of 20_memory.md: what a register read returns and changes (R61, R62), unmapped numbers
(R63), the configuration lock (R64), access kinds (R65), samples and pops of an idle engine (R67, R69), and what the
outcome of a burst depends on (R77). -/

namespace Sys2Proof.Machine

/-! ### Reads and writes of the register map -/

theorem regOfNum_eq_none_iff (n : Nat) : regOfNum n = none ↔ ∀ r : Reg, n ≠ r.num := by
  simp [Option.eq_none_iff_forall_ne_some, regOfNum_eq_some_iff]

/-- A read of a register other than TX_DATA is recorded and no more (20_memory.md R62). -/
theorem hostRead_num {r : Reg} (hr : r ≠ .txData) (s : State) : hostRead r.num s = logRead (readReg r s) s := by
  simp [hostRead_eq, hr]

theorem hostRead_txData (s : State) : hostRead 0x31 s = popRead s := rfl

theorem hostRead_unmapped {n : Nat} (hn : regOfNum n = none) (s : State) : hostRead n s = logRead 0 s := by
  simp [hostRead_eq, hn]

theorem hostWrite_unmapped {n : Nat} (hn : regOfNum n = none) (v : Nat) (s : State) : hostWrite n v s = .next s := by
  simp [hostWrite, hn]

/-- The host's side holds no register. -/
@[simp] theorem readReg_withHost (r : Reg) (s : State) (x : HostSide) : readReg r (s.withHost x) = readReg r s := by
  cases r <;> rfl

/-! ### Steps that read or write a register -/

section Steps
variable {s : State} {rest : List HostEvent}

/-- A step at a read that only records a value. -/
theorem step_of_hostRead_logs {n : Nat} {x : RegValue} (hp : s.host.pending = .regRead n :: rest)
    (hread : hostRead n (s.withHost { s.host with pending := rest }) =
      logRead x (s.withHost { s.host with pending := rest })) :
    step s = .next (s.withHost { s.host with pending := rest, returned := s.host.returned ++ [x] }) := by
  rw [step_cons hp, performEvent, hread]
  rfl

/-- A step at a read of a register other than TX_DATA (20_memory.md R61, R62). -/
theorem step_readReg {r : Reg} (hr : r ≠ .txData) (hp : s.host.pending = .regRead r.num :: rest) :
    step s = .next (s.withHost { s.host with pending := rest, returned := s.host.returned ++ [readReg r s] }) :=
  step_of_hostRead_logs hp (by rw [hostRead_num hr, readReg_withHost])

/-- A step at a write of a register that is no port (20_memory.md R61). -/
theorem step_writeReg {r : Reg} {v : Nat} (hcmd : r ≠ .cmd) (hrx : r ≠ .rxData)
    (hp : s.host.pending = .regWrite r.num v :: rest) :
    step s = .next (writeReg r v (s.withHost { s.host with pending := rest })) := by
  rw [step_cons hp]
  exact hostWrite_eq v _ (regOfNum_num r) hcmd hrx

end Steps

/-- Settles O12: the step is the recorded read. -/
theorem readChangesNothingOfTheBlock : Obligations.ReadChangesNothingOfTheBlock :=
  fun _ _ _ hr hp => step_readReg hr hp

/-- Settles O14: no register bears the number, so the read records 0 and the write reaches nothing. -/
theorem unmappedNumbersReadZeroAndIgnoreWrites : Obligations.UnmappedNumbersReadZeroAndIgnoreWrites := by
  intro s n v rest hn
  have hnone : regOfNum n = none := (regOfNum_eq_none_iff n).2 hn
  constructor
  · intro hp
    exact step_of_hostRead_logs hp (hostRead_unmapped hnone _)
  · intro hp
    rw [step_cons hp]
    exact hostWrite_unmapped hnone v _

/-! ### Widths (10_state.md R21, 20_memory.md R61) -/

theorem toNat_setWidth_regValue_lt {w : Nat} (x : BitVec w) : (x.setWidth 40 : RegValue).toNat < 2 ^ w := by
  rw [BitVec.toNat_setWidth]
  exact (Nat.mod_le _ _).trans_lt x.isLt

/-- A value truncated to a register's width reads back as its residue. -/
theorem toNat_setWidth_regValue_ofNat {w : Nat} (hw : w ≤ 40) (v : Nat) :
    ((BitVec.ofNat w v).setWidth 40 : RegValue).toNat = v % 2 ^ w := by
  rw [BitVec.toNat_setWidth_of_le hw, BitVec.toNat_ofNat]

/-- Settles O13: a register reads as its element widened, RX_BITS as its element, and the ports as 0. -/
theorem registerValuesFitTheirWidths : Obligations.RegisterValuesFitTheirWidths := by
  intro r s
  cases r with
  | cmd | rxData | txData => exact Nat.two_pow_pos _
  | rxBits => exact s.rxRes.bits.isLt
  | _ => exact toNat_setWidth_regValue_lt _

/-! ### Configuration writes (20_memory.md R64) -/

section ConfigWrites
variable (s : State) (v : Nat)

theorem readReg_withCfg_write_same {r : Reg} (hr : r.isConfig = true) :
    (readReg r (s.withCfg (s.cfg.write r v))).toNat =
      if r = .ckCtrl then (v % 2 ^ 16) &&& 0xFF01 else v % 2 ^ 16 := by
  cases r with
  | ckCtrl =>
    change ((BitVec.ofNat 16 v &&& 0xFF01).setWidth 40).toNat = v % 2 ^ 16 &&& 0xFF01
    rw [BitVec.toNat_setWidth_of_le (by decide), BitVec.toNat_and, BitVec.toNat_ofNat]
    rfl
  | shortMin | shortMax | longMin | longMax | syncMin | syncMax | gapMin | gapMax | tPreamble | tSync | tShort | tLong
  | tGap => exact toNat_setWidth_regValue_ofNat (by decide) v
  | _ => contradiction

/-- Each configuration register is a field of its own, and no other register reads one. -/
theorem readReg_withCfg_write_other {q r : Reg} (hqr : q ≠ r) :
    readReg q (s.withCfg (s.cfg.write r v)) = readReg q s := by
  unfold CfgRegs.write
  split
  case h_15 => rfl
  all_goals cases q <;> first | exact absurd rfl hqr | rfl

end ConfigWrites

theorem ne_port_of_isConfig {r : Reg} (hr : r.isConfig = true) : r ≠ .cmd ∧ r ≠ .rxData := by
  constructor <;> rintro rfl <;> contradiction

/-- Settles O15: the write stores while both engines are idle and is `setBusyErr` otherwise. -/
theorem configurationIsLockedWhileBusy : Obligations.ConfigurationIsLockedWhileBusy := by
  intro s r v rest hr hp
  obtain ⟨hcmd, hrx⟩ := ne_port_of_isConfig hr
  have hstep := step_writeReg hcmd hrx hp
  constructor
  · rintro ⟨hphase, hbusy⟩
    exact ⟨s.cfg.write r v, hstep.trans (congrArg _ (writeReg_config_idle v hr hphase hbusy)),
      readReg_withCfg_write_same s v hr, fun q hq => readReg_withCfg_write_other s v hq⟩
  · intro hbusy
    exact hstep.trans (congrArg _ (writeReg_config_busy v hr hbusy))

/-! ### Operand writes, read-only registers and STATUS (20_memory.md R65) -/

section OperandWrites
variable (s : State) (v : Nat)

theorem readReg_withOpr_write_same {r : Reg} (hr : r.isOperand = true) :
    (readReg r (s.withOpr (s.opr.write r v))).toNat = v % 2 ^ r.width := by
  cases r with
  | opDur | fRemote | fChannel | fCommand | fChecksum => exact toNat_setWidth_regValue_ofNat (by decide) v
  | _ => contradiction

/-- Each operand register is a field of its own, and no other register reads one. -/
theorem readReg_withOpr_write_other {q r : Reg} (hqr : q ≠ r) :
    readReg q (s.withOpr (s.opr.write r v)) = readReg q s := by
  unfold OperandRegs.write
  split
  case h_6 => rfl
  all_goals cases q <;> first | exact absurd rfl hqr | rfl

end OperandWrites

theorem ne_port_of_isOperand {r : Reg} (hr : r.isOperand = true) : r ≠ .cmd ∧ r ≠ .rxData := by
  constructor <;> rintro rfl <;> contradiction

/-- The registers with no access but a read are none of those a write reaches (10_state.md R21). -/
theorem readOnly_not_written : ∀ r ∈ [Reg.resCat, .resCk, .rxStatus, .rxRemote, .rxChannel, .rxCommand, .rxChecksum,
    .rxExpected, .rxBits, .txData],
    r ≠ .cmd ∧ r ≠ .rxData ∧ r.isConfig = false ∧ r.isOperand = false ∧ r ≠ .status := by decide

theorem testBit_eq_false_of_mod_lt {v i : Nat} (h : v % 2 ^ 8 < 2 ^ 4) (hlo : 4 ≤ i) (hhi : i < 8) :
    v.testBit i = false := by
  have hlow : (v % 2 ^ 8).testBit i = false := Nat.testBit_lt_two_pow (h.trans_le (Nat.pow_le_pow_right two_pos hlo))
  rwa [Nat.testBit_mod_two_pow, decide_eq_true hhi, Bool.true_and] at hlow

/-- With none of bits 7:4 written as 1 nothing is cleared: bits 3:0 are ignored (10_state.md R27). -/
theorem clearSticky_eq_self {v : Nat} (h : v % 256 < 16) (s : State) : clearSticky v s = s := by
  have hbit {i : Nat} (hlo : 4 ≤ i) (hhi : i < 8) : v.testBit i = false := testBit_eq_false_of_mod_lt h hlo hhi
  simp only [clearSticky, hbit, le_refl, Nat.reduceLeDiff, Nat.reduceLT, Bool.not_false, Bool.and_true]
  exact s.withFlags_self

/-- Settles O16, one clause per access kind. -/
theorem accessKindsAreKept : Obligations.AccessKindsAreKept := by
  intro s v rest
  refine ⟨?readOnly, ?status, ?writeOnly, ?operand⟩
  case readOnly =>
    intro r hr hp
    obtain ⟨hcmd, hrx, hcfg, hopr, hstatus⟩ := readOnly_not_written r hr
    rw [step_writeReg hcmd hrx hp, writeReg_other v _ hcfg hopr hstatus]
  case status =>
    intro hv hp
    rw [step_writeReg (r := .status) nofun nofun hp, writeReg_status, clearSticky_eq_self hv]
  case writeOnly =>
    rintro n (rfl | rfl) hp
    · exact step_readReg (r := .cmd) nofun hp
    · exact step_readReg (r := .rxData) nofun hp
  case operand =>
    intro r hr hp
    obtain ⟨hcmd, hrx⟩ := ne_port_of_isOperand hr
    refine ⟨s.opr.write r v, ?_, readReg_withOpr_write_same s v hr, fun q hq => readReg_withOpr_write_other s v hq⟩
    rw [step_writeReg hcmd hrx hp, writeReg_operand v _ hr, State.withHost_opr]

/-! ### The ports of an idle engine (20_memory.md R67, R69) -/

/-- Settles O29: the push is `setRxOvr`. -/
theorem sampleWhileIdleIsDropped : Obligations.SampleWhileIdleIsDropped :=
  fun _ last v hidle => congrArg Host.Outcome.next (rxPush_idle v last hidle)

theorem popRead_idle {s : State} (hidle : s.flags.txBusy = false) : popRead s = logRead 0 (setTxUdr s) := by
  rw [popRead, popWord_idle hidle, popState_idle hidle]
  rfl

/-- Settles O50: the read is a pop of the idle engine. -/
theorem popWhileIdleReturnsZero : Obligations.PopWhileIdleReturnsZero := by
  intro s rest hp hidle
  rw [step_cons hp, performEvent, hostRead_txData]
  exact congrArg _ (popRead_idle hidle)

/-! ### Bursts as instructions (20_memory.md R66) -/

theorem exec_portword (last : Bool) (v : Duration) (s : State) :
    exec (.portword last v) s = .next (rxPush v last s) := rfl

/-- The port words of a burst, run one by one, are the burst pushed. -/
theorem execAll_burstOf (vs : List Duration) (s : State) : execAll (burstOf vs) s = .next (pushBurst vs s) := by
  induction vs generalizing s with
  | nil => rfl
  | cons v vs ih =>
    cases vs with
    | nil => rfl
    | cons w vs =>
      rw [burstOf, pushBurst_cons, execAll, exec_portword]
      exact ih _

/-- Each RX command arms the engine in a mode and a busy phase of its own (45_control.md R212). -/
theorem exec_rxCommand {cmd : Instr} (hcmd : cmd = .rxburst ∨ cmd = .bitdec ∨ cmd = .fdec) :
    ∃ (m : RxMode) (p : RxPhase), p ≠ .idle ∧ ∀ s : State, exec cmd s = .next (startRx m p s) := by
  rcases hcmd with rfl | rfl | rfl
  · exact ⟨.dur, .hunt, nofun, fun _ => rfl⟩
  · exact ⟨.cat, .hunt, nofun, fun _ => rfl⟩
  · exact ⟨.bit, .bits, nofun, fun _ => rfl⟩

theorem execAll_rxCommand_burstOf {cmd : Instr} {m : RxMode} {p : RxPhase} {s : State}
    (hexec : ∀ s : State, exec cmd s = .next (startRx m p s)) (hidle : s.rx.phase = .idle) (vs : List Duration) :
    execAll (cmd :: burstOf vs) s = .next (pushBurst vs (armRx m p s)) := by
  rw [execAll, hexec, startRx_idle m p hidle]
  exact execAll_burstOf vs _

/-! ### What the outcome of a burst depends on (20_memory.md R77) -/

/-- The results of a burst are read off the configuration, the RX engine and the results before it. -/
theorem pushBurst_rxRes_congr {s t : State} (vs : List Duration) (hc : s.cfg = t.cfg) (hr : s.rx = t.rx)
    (hx : s.rxRes = t.rxRes) : (pushBurst vs s).rxRes = (pushBurst vs t).rxRes := by
  induction vs generalizing s t with
  | nil => exact hx
  | cons v vs ih =>
    cases vs with
    | nil => exact rxPush_rxRes_congr v true hc hr hx
    | cons w vs =>
      rw [pushBurst_cons, pushBurst_cons]
      exact ih (by simpa using hc) (rxPush_rx_congr v false hc hr) (rxPush_rxRes_congr v false hc hr hx)

/-- A nonempty burst runs a busy engine to its end: the engine is idle and rx_done set (20_memory.md R66). -/
theorem pushBurst_finishes {vs : List Duration} {s : State} (hne : vs ≠ []) (hbusy : s.rx.phase ≠ .idle) :
    (pushBurst vs s).flags.rxDone = true ∧ (pushBurst vs s).rx.phase = .idle := by
  induction vs generalizing s with
  | nil => contradiction
  | cons v vs ih =>
    cases vs with
    | nil =>
      rw [pushBurst, rxPush_last v hbusy]
      exact ⟨rfl, rfl⟩
    | cons w vs =>
      rw [pushBurst_cons, rxPush_more v hbusy]
      exact ih nofun (stepSample_phase_ne_idle v hbusy)

/-- Settles O41: arming leaves two states that agree on all a burst reads, and the burst keeps them so. -/
theorem burstOutcomeIgnoresEverythingElse : Obligations.BurstOutcomeIgnoresEverythingElse := by
  intro s t cmd vs hcmd hcfg hs ht hne
  obtain ⟨m, p, hp, hexec⟩ := exec_rxCommand hcmd
  have hres : (pushBurst vs (armRx m p s)).rxRes = (pushBurst vs (armRx m p t)).rxRes :=
    pushBurst_rxRes_congr vs hcfg rfl rfl
  obtain ⟨hsdone, hsidle⟩ := pushBurst_finishes (s := armRx m p s) hne hp
  obtain ⟨htdone, htidle⟩ := pushBurst_finishes (s := armRx m p t) hne hp
  exact ⟨_, _, execAll_rxCommand_burstOf hexec hs vs, execAll_rxCommand_burstOf hexec ht vs, hres, hsdone, htdone,
    hsidle, htidle⟩

end Sys2Proof.Machine
end

section
/-! PROOFS. The statements of 30_encoding.md: the decoder against the encoder (R94 to R111), the pair of a bit (R95),
the category table (R91), the wire rows in a burst (R94, R101), and VALIDATE (R106). -/

namespace Sys2Proof

/-! ### Frame words bit by bit (30_encoding.md R97, R98) -/

theorem shiftIn_getLsbD (sr : FrameWord) (b : Bool) {i : Nat} (hi : i < 40) :
    (shiftIn sr b).getLsbD i = if i = 0 then b else sr.getLsbD (i - 1) := by
  rw [shiftIn, BitVec.getLsbD_setWidth, decide_eq_true hi, Bool.true_and, BitVec.getLsbD_append]
  by_cases h0 : i = 0 <;> simp [h0]

/-- Shifting in the next bit of a word moves the window on the word down by one. -/
theorem shiftIn_ushiftRight (w : FrameWord) {n : Nat} (hn : n < 40) :
    shiftIn (w >>> (40 - n)) (frameBit w n) = w >>> (40 - (n + 1)) := by
  apply BitVec.eq_of_getLsbD_eq
  intro i hi
  rw [shiftIn_getLsbD _ _ hi, BitVec.getLsbD_ushiftRight, BitVec.getLsbD_ushiftRight, frameBit]
  split <;> (congr 1; omega)

/-- The first `n` bits of a frame, shifted in, are the top `n` bits of its word. -/
theorem wordOfBits_map_frameBit_range (w : FrameWord) {n : Nat} (hn : n ≤ 40) :
    wordOfBits ((List.range n).map (frameBit w)) = w >>> (40 - n) := by
  induction n with
  | zero => exact (BitVec.ushiftRight_eq_zero (Nat.le_refl 40)).symm
  | succ n ih =>
    have htop : wordOfBits ((List.range n).map (frameBit w)) = w >>> (40 - n) := ih (by omega)
    rw [wordOfBits] at htop ⊢
    rw [List.range_succ, List.map_append, List.foldl_append, htop]
    exact shiftIn_ushiftRight w hn

@[simp] theorem wordOfBits_frameBits (w : FrameWord) : wordOfBits (frameBits w) = w :=
  (wordOfBits_map_frameBit_range w (Nat.le_refl 40)).trans (BitVec.ushiftRight_zero w)

/-! ### Pairs and codes -/

/-- PairBit undoes the pair sent for a bit (30_encoding.md R95). -/
@[simp] theorem pairBit_bitPair (b : Bool) : pairBit (bitPair b).1 (bitPair b).2 = some b := by cases b <;> rfl

theorem pairsToBits_bitPair_append (b : Bool) (ws : List Nat) :
    pairsToBits (pairWords (bitPair b) ++ ws) = (pairsToBits ws).map (b :: ·) := by
  simp only [pairWords, List.cons_append, List.nil_append, pairsToBits, catOfWord_word, pairBit_bitPair]
  cases pairsToBits ws <;> rfl

/-- The pairs sent for a run of bits read back as the bits. -/
theorem pairsToBits_flatMap_pairWords (bits : List Bool) :
    pairsToBits (bits.flatMap fun b => pairWords (bitPair b)) = some bits := by
  induction bits with
  | nil => rfl
  | cons b bits ih => rw [List.flatMap_cons, pairsToBits_bitPair_append, ih, Option.map_some]

theorem length_flatMap_pairWords (bits : List Bool) :
    (bits.flatMap fun b => pairWords (bitPair b)).length = 2 * bits.length := by
  simp [List.length_flatMap, pairWords, Nat.mul_comm]

theorem decodePair_of_not_isDataPair {a b : Category} (h : isDataPair a b = false) : decodePair a b = .badpair a b := by
  rw [← pairBit_isSome_iff, Option.isSome_eq_false_iff, Option.isNone_iff_eq_none] at h
  rw [decodePair, h]

/-! ### Decoding what the encoder writes -/

/-- A port word is its `last` bit above its 16-bit value (30_encoding.md R103). -/
theorem decode_encode_portword (last : Bool) (v : Duration) :
    decode .port17 (encode (.portword last v)) = .ok (.portword last v) := by
  have hlast : (BitVec.ofBool last ++ v).toNat.testBit 16 = last := by
    rw [BitVec.testBit_toNat, BitVec.getLsbD_append]
    simp
  have hvalue : BitVec.ofNat 16 (BitVec.ofBool last ++ v).toNat = v := by
    rw [BitVec.ofNat_toNat, BitVec.setWidth_append_eq_right]
  simp only [encode, decode, hlast, hvalue]

theorem decode_encode_frame40 (r : RemoteId) (h c : Nibble) (k : CheckByte) :
    decode .frame40 (encode (.frame40 r h c k)) = .ok (.frame40 r h c k) := by
  simp only [encode, decode, BitVec.ofNat_toNat, BitVec.setWidth_eq, wordRemote_frameOf, wordChannel_frameOf,
    wordCommand_frameOf, wordCheck_frameOf]

theorem decode_encode_train {p : Category} (hp : p ≠ .sync) (w : FrameWord) :
    decode .train (encode (.train p w)) = .ok (.train p w) := by
  have hlen : ((frameBits w).flatMap fun b => pairWords (bitPair b)).length = 80 := by
    rw [length_flatMap_pairWords, frameBits_length]
  rw [encode, decode, List.cons_append, List.cons_append, decodeTrain]
  rw [List.take_left' hlen, List.drop_left' hlen, pairsToBits_flatMap_pairWords]
  simp [hlen, hp]

/-- Settles O1, format by format. -/
theorem decodeOfEncodeIsTheInstruction : Obligations.DecodeOfEncodeIsTheInstruction := by
  intro i hi
  cases i with
  | txframe | validate => simp [Instr.format, encode, decode, decodePseudo, decodeOp]
  | frame40 r h c k => exact decode_encode_frame40 r h c k
  | badpair a b =>
    have hpair : isDataPair a b = false := by simpa [Instr.wellFormed] using hi
    simp [Instr.format, encode, pairWords, decode, decodeSymbol, decodePair_of_not_isDataPair hpair]
  | preamble c =>
    have hc : c ≠ .sync := of_decide_eq_true hi
    simp [Instr.format, encode, decode, decodeSymbol, hc]
  | train p w => exact decode_encode_train (of_decide_eq_true hi) w
  | portword last v => exact decode_encode_portword last v
  | _ => rfl

/-! ### What the decoder answers -/

theorem decodeOp_answers (v : Nat) : (decodeOp v).wellFormed = true ∧ (decodeOp v).format = .op := by
  unfold decodeOp
  split <;> exact ⟨rfl, rfl⟩

theorem decodeErr_answers (v : Nat) : (decodeErr v).wellFormed = true ∧ (decodeErr v).format = .errcode := by
  unfold decodeErr
  split <;> exact ⟨rfl, rfl⟩

theorem instrOfCategory_answers (c : Category) :
    (instrOfCategory c).wellFormed = true ∧ (instrOfCategory c).format = .catcode := by
  cases c <;> exact ⟨rfl, rfl⟩

/-- A pair is decoded as BADPAIR only when PairBit refuses it (30_encoding.md R94). -/
theorem decodePair_answers (a b : Category) :
    (decodePair a b).wellFormed = true ∧ (decodePair a b).format = .symbol .data := by
  unfold decodePair
  split
  case h_1 => exact ⟨rfl, rfl⟩
  case h_2 => exact ⟨rfl, rfl⟩
  case h_3 hnone => simp [Instr.wellFormed, Instr.format, ← pairBit_isSome_iff, hnone]

/-- The only rows of format PSEUDO are TXFRAME and VALIDATE, and each is legal with any operands
(30_encoding.md R106). -/
theorem decodePseudo_answers {ws : List Nat} {i : Instr} (h : decodePseudo ws = .ok i) :
    i.wellFormed = true ∧ i.format = .pseudo := by
  unfold decodePseudo at h
  split at h
  case h_1 | h_2 =>
    split at h
    · cases h; exact ⟨rfl, rfl⟩
    · contradiction
  case h_3 => contradiction

/-- The place decides the row, and SYNC is refused in the preamble's place (30_encoding.md R101). -/
theorem decodeSymbol_answers {p : Place} {ws : List Nat} {i : Instr} (h : decodeSymbol p ws = .ok i) :
    i.wellFormed = true ∧ i.format = .symbol p := by
  unfold decodeSymbol at h
  split at h
  case h_1 =>
    split at h
    · contradiction
    next hne => cases h; exact ⟨decide_eq_true hne, rfl⟩
  case h_2 | h_3 =>
    split at h
    · cases h; exact ⟨rfl, rfl⟩
    · contradiction
  case h_4 =>
    cases h
    exact decodePair_answers _ _
  case h_5 => contradiction

/-- A train's preamble is not SYNC (30_encoding.md R101). -/
theorem decodeTrain_answers {ws : List Nat} {i : Instr} (h : decodeTrain ws = .ok i) :
    i.wellFormed = true ∧ i.format = .train := by
  unfold decodeTrain at h
  split at h
  case h_2 => contradiction
  case h_1 p y rest =>
    split at h
    · contradiction
    split at h
    · contradiction
    next hp =>
      split at h
      · contradiction
      split at h
      · contradiction
      split at h
      · cases h; exact ⟨decide_eq_true hp, rfl⟩
      · contradiction

/-- Settles O2, format by format. -/
theorem decodedInstructionIsWellFormed : Obligations.DecodedInstructionIsWellFormed := by
  intro f ws i h
  unfold decode at h
  split at h
  case h_1 v => cases h; exact decodeOp_answers v
  case h_2 => exact decodePseudo_answers h
  case h_3 => cases h; exact ⟨rfl, rfl⟩
  case h_4 => exact decodeSymbol_answers h
  case h_5 => exact decodeTrain_answers h
  case h_6 => cases h; exact ⟨rfl, rfl⟩
  case h_7 v => cases h; exact instrOfCategory_answers _
  case h_8 v => cases h; exact decodeErr_answers v
  case h_9 => contradiction

/-- Settles O3: each of the eleven words is read by evaluating the decoder on it. -/
theorem specWordsDecodeToTheirRows : Obligations.SpecWordsDecodeToTheirRows := by
  unfold Obligations.SpecWordsDecodeToTheirRows
  decide

end Sys2Proof

namespace Sys2Proof.Machine

/-! ### The pair of a bit on the air (30_encoding.md R95) -/

/-- Settles O4: the pulses of a train are `pulseAt_first` and `pulseAt_second`. -/
theorem sentPairReadsBackAsItsBit : Obligations.SentPairReadsBackAsItsBit := by
  refine ⟨rfl, rfl, pairBit_bitPair, fun g w i hi => ?_⟩
  rw [pulseAt_first g w hi, pulseAt_second g w hi]
  cases frameBit w i <;> exact ⟨rfl, rfl⟩

/-! ### The category table (30_encoding.md R91) -/

/-- The classifier with the reset windows put in. -/
theorem classify_reset (d : Nat) :
    classify State.reset.cfg d =
      if 420 ≤ d ∧ d ≤ 510 then .short
      else if 1050 ≤ d ∧ d ≤ 1110 then .long
      else if 2370 ≤ d ∧ d ≤ 2400 then .sync
      else if 6500 ≤ d ∧ d ≤ 7500 then .gap
      else .unknown := by
  simp [classify, inWindow, State.reset]

/-- A duration in none of the four windows is UNKNOWN (40_classifier.md R130). -/
theorem classify_reset_outside {d : Nat}
    (h : ¬(420 ≤ d ∧ d ≤ 510) ∧ ¬(1050 ≤ d ∧ d ≤ 1110) ∧ ¬(2370 ≤ d ∧ d ≤ 2400) ∧ ¬(6500 ≤ d ∧ d ≤ 7500)) :
    classify State.reset.cfg d = .unknown := by
  obtain ⟨hshort, hlong, hsync, hgap⟩ := h
  rw [classify_reset, if_neg hshort, if_neg hlong, if_neg hsync, if_neg hgap]

/-- Settles O20: five of the ranges lie outside the four windows, and the windows are disjoint. -/
theorem resetWindowsGiveTheCategoryTable : Obligations.ResetWindowsGiveTheCategoryTable := by
  intro d _
  refine ⟨?below, ?short, ?belowLong, ?long, ?belowSync, ?sync, ?belowGap, ?gap, ?above⟩
  case below | belowLong | belowSync | belowGap | above =>
    intro hd
    exact classify_reset_outside (by omega)
  case short =>
    intro hd
    rw [classify_reset, if_pos hd]
  case long =>
    intro hd
    rw [classify_reset, if_neg (by omega), if_pos hd]
  case sync =>
    intro hd
    rw [classify_reset, if_neg (by omega), if_neg (by omega), if_pos hd]
  case gap =>
    intro hd
    rw [classify_reset, if_neg (by omega), if_neg (by omega), if_neg (by omega), if_pos hd]

/-! ### A pulse the block reads (log entry 5) -/

@[simp] theorem catDecode_codeSample (c : Category) : catDecode ((codeSample c).setWidth 3) = c := by cases c <;> rfl

section Pulses
variable {s t : State} {a b c : Category}

/-- How a pulse reads depends on the mode and the windows alone. -/
theorem PulseIsRead.congr (h : PulseIsRead s c) (hcfg : t.cfg = s.cfg) (hmode : t.rx.mode = s.rx.mode) :
    PulseIsRead t c := by
  rwa [PulseIsRead, hcfg, hmode]

/-- A pulse that is read steps a busy engine by its category (20_memory.md R66). -/
theorem pushPulse_of_read (hbusy : s.rx.phase ≠ .idle) (h : PulseIsRead s c) : pushPulse c s = stepCategory c s := by
  rw [pushPulse, rxPush_more _ hbusy]
  rcases h with hmode | ⟨hmode, hclass⟩
  · rw [stepSample_cat _ hmode, hmode, pulseSample, catDecode_codeSample]
  · rw [stepSample_dur _ hmode, hmode, pulseSample, hclass]

/-- A pair whose first pulse is no GAP: the first is held and the second ends the data or completes the pair
(41_bitdecoder.md R145 to R147). -/
theorem pushPulse_pair (hphase : s.rx.phase = .data) (hhalf : s.rx.half = false) (ha : a ≠ .gap)
    (hra : PulseIsRead s a) (hrb : PulseIsRead s b) :
    pushPulse b (pushPulse a s) =
      if b = .gap then raiseErr .unexpectedLength (stepFirst a s) else stepSecond b (stepFirst a s) := by
  have hfirst : pushPulse a s = stepFirst a s := by
    rw [pushPulse_of_read (by simp [hphase]) hra, stepCategory_data a hphase]
    simp [stepData, ha, hhalf]
  have hphase' : (stepFirst a s).rx.phase = .data := hphase
  have hrb' : PulseIsRead (stepFirst a s) b := hrb.congr rfl rfl
  rw [hfirst, pushPulse_of_read (by simp [hphase']) hrb', stepCategory_data b hphase']
  simp [stepData, stepFirst]

/-- A pair that reads as a bit leaves the code of its first pulse behind and the bit shifted in
(41_bitdecoder.md R147). -/
theorem pushPulse_dataPair {x : Bool} (hphase : s.rx.phase = .data) (hhalf : s.rx.half = false)
    (hra : PulseIsRead s a) (hrb : PulseIsRead s b) (hpair : pairBit a b = some x) :
    pushPulse b (pushPulse a s) =
      s.withRx
        { s.rx with
          first := a.code, sr := shiftIn s.rx.sr x, cnt := s.rx.cnt + 1
          phase := if s.rx.cnt + 1 = 40 then .tail else .data } := by
  have ha : a ≠ .gap := by rintro rfl; simp at hpair
  have hb : b ≠ .gap := by rintro rfl; simp at hpair
  rw [pushPulse_pair hphase hhalf ha hra hrb, if_neg hb]
  simp [stepSecond, stepFirst, collectBit, hpair, hphase, hhalf]

/-- A pair without a GAP that PairBit refuses is malformed (41_bitdecoder.md R147, 60_exceptions.md R224). -/
theorem pushPulse_malformedPair (hphase : s.rx.phase = .data) (hhalf : s.rx.half = false) (ha : a ≠ .gap)
    (hb : b ≠ .gap) (hra : PulseIsRead s a) (hrb : PulseIsRead s b) (hpair : pairBit a b = none) :
    pushPulse b (pushPulse a s) =
      s.withRx { s.rx with first := a.code, err := .malformedPulsePair, phase := .flush } := by
  rw [pushPulse_pair hphase hhalf ha hra hrb, if_neg hb]
  simp [stepSecond, stepFirst, raiseErr, hpair, hhalf]

end Pulses

/-! ### The wire rows in a burst (30_encoding.md R94, R101) -/

/-- Settles O43: the two symbols are the pairs PairBit takes to 0 and 1. -/
theorem dataSymbolsShiftTheirBitIn : Obligations.DataSymbolsShiftTheirBitIn := by
  intro s hphase hhalf hshort hlong
  exact ⟨shiftIn s.rx.sr false, shiftIn s.rx.sr true, shiftIn_toNat _ _, shiftIn_toNat _ _,
    congrArg _ (pushPulse_dataPair hphase hhalf hshort hlong rfl),
    congrArg _ (pushPulse_dataPair hphase hhalf hlong hshort rfl)⟩

/-- Settles O44, by the place of the GAP in the pair. -/
theorem malformedSymbolsRaiseTheirError : Obligations.MalformedSymbolsRaiseTheirError := by
  intro s a b hwf hphase hhalf hra hrb
  have hmalformed : pairBit a b = none := by
    simpa [Instr.wellFormed, ← pairBit_isSome_iff] using hwf
  refine ⟨?gapFirst, ?gapSecond, ?noGap⟩
  case gapFirst =>
    rintro rfl
    have hgap : pushPulse .gap s = raiseErr .unexpectedLength s := by
      rw [pushPulse_of_read (by simp [hphase]) hra, stepCategory_data _ hphase, stepData, if_pos rfl]
    refine congrArg Host.Outcome.next ?_
    rw [hgap]
    exact (rxPush_more _ (by simp [raiseErr])).trans (stepSample_flush _ rfl)
  case gapSecond =>
    rintro ha rfl
    exact congrArg _ (pushPulse_pair hphase hhalf ha hra hrb)
  case noGap =>
    intro ha hb
    exact congrArg _ (pushPulse_malformedPair hphase hhalf ha hb hra hrb hmalformed)

/-- A preamble pulse that does not read as SYNC is skipped (41_bitdecoder.md R144). -/
theorem rxPush_preambleSample {s : State} {c : Category} (hphase : s.rx.phase = .hunt) (hc : c ≠ .sync)
    (hread : s.rx.mode = .cat ∨ (s.rx.mode = .dur ∧ classify s.cfg s.cfg.tPreamble.toNat ≠ .sync)) :
    rxPush (preambleSample s.cfg s.rx.mode c) false s = s := by
  rw [rxPush_more _ (by simp [hphase])]
  rcases hread with hmode | ⟨hmode, hclass⟩
  · rw [stepSample_cat _ hmode, stepCategory_hunt _ hphase, hmode, preambleSample, catDecode_codeSample,
      stepHunt, if_neg hc]
  · rw [stepSample_dur _ hmode, stepCategory_hunt _ hphase, hmode, preambleSample, stepHunt, if_neg hclass]

/-- Settles O45, one clause per place of the train. -/
theorem structurePulsesMoveTheFramer : Obligations.StructurePulsesMoveTheFramer := by
  intro s
  refine ⟨?preamble, ?sync, ?endgap⟩
  case preamble =>
    intro c hphase hc hread
    exact congrArg _ (rxPush_preambleSample hphase hc hread)
  case sync =>
    intro hphase hread
    refine congrArg Host.Outcome.next ?_
    rw [pushPulse_of_read (by simp [hphase]) hread, stepCategory_hunt _ hphase, stepHunt, if_pos rfl]
  case endgap =>
    intro hphase hread
    refine congrArg Host.Outcome.next ?_
    rw [pushPulse_of_read (by simp [hphase]) hread, stepCategory_tail _ hphase, stepTail, if_pos rfl]

/-! ### VALIDATE (30_encoding.md R106, 43_checksum.md R184) -/

/-- Settles O53: the operands are `writePayload_opr`, and the read hands over the RES_CK just written. -/
theorem validateComparesWithTheChecksumUnit : Obligations.ValidateComparesWithTheChecksumUnit := by
  intro s r h c k
  change execValidate r h c k s = _
  rw [execValidate, writePayload_opr]
  rfl

end Sys2Proof.Machine
end

section
/-! PROOFS. The statements of 40_classifier.md: the first window that holds a duration gives its category (R130), and
CLASSIFY writes that category's code (R131). -/

namespace Sys2Proof.Machine

/-! ### The classifier under any windows (R130) -/

/-- A window holds its bounds and what lies between. -/
@[simp] theorem inWindow_iff (lo hi : BitVec 16) (d : Nat) :
    inWindow lo hi d = true ↔ lo.toNat ≤ d ∧ d ≤ hi.toNat := by
  simp [inWindow]

/-- The classifier with every window written as its bounds, the earlier window first. -/
theorem classify_eq (g : CfgRegs) (d : Nat) :
    classify g d =
      if g.shortMin.toNat ≤ d ∧ d ≤ g.shortMax.toNat then .short
      else if g.longMin.toNat ≤ d ∧ d ≤ g.longMax.toNat then .long
      else if g.syncMin.toNat ≤ d ∧ d ≤ g.syncMax.toNat then .sync
      else if g.gapMin.toNat ≤ d ∧ d ≤ g.gapMax.toNat then .gap
      else .unknown := by
  simp only [classify, inWindow_iff]

/-! ### CLASSIFY (R131) -/

/-- CLASSIFY asks for no idle engine: in every state it writes the code of OP_DUR's category and ends. -/
theorem exec_classify (s : State) :
    exec .classify s = .next (s.withResCat (classify s.cfg s.opr.opDur.toNat).code) := rfl

/-- Settles O19: each clause refuses the windows before its own, so `classify_eq` stops at its window. -/
theorem classifyWritesTheFirstMatchingWindow : Obligations.ClassifyWritesTheFirstMatchingWindow := by
  intro s
  refine ⟨_, exec_classify s, ?short, ?long, ?sync, ?gap, ?none⟩
  case short =>
    intro hshort
    rw [classify_eq, if_pos hshort, Category.code]
  case long =>
    rintro ⟨hshort, hlong⟩
    rw [classify_eq, if_neg hshort, if_pos hlong, Category.code]
  case sync =>
    rintro ⟨hshort, hlong, hsync⟩
    rw [classify_eq, if_neg hshort, if_neg hlong, if_pos hsync, Category.code]
  case gap =>
    rintro ⟨hshort, hlong, hsync, hgap⟩
    rw [classify_eq, if_neg hshort, if_neg hlong, if_neg hsync, if_pos hgap, Category.code]
  case none =>
    rintro ⟨hshort, hlong, hsync, hgap⟩
    rw [classify_eq, if_neg hshort, if_neg hlong, if_neg hsync, if_neg hgap, Category.code]

end Sys2Proof.Machine
end

section
/-! PROOFS. The statements of 41_bitdecoder.md: what a sample does in each phase of the sequencer (R144 to R149), what
the last sample of a burst adds (R150), and that a whole burst comes to BitDecode of its categories (R151). -/

namespace Sys2Proof

/-! ### The pair table (30_encoding.md R94) -/

theorem catDecode_eq_short_iff (x : BitVec 3) : catDecode x = .short ↔ x = 1 := by revert x; decide

theorem catDecode_eq_long_iff (x : BitVec 3) : catDecode x = .long ↔ x = 2 := by revert x; decide

theorem pairBit_eq_some_iff (a b : Category) (x : Bool) :
    pairBit a b = some x ↔ (x = false ∧ a = .short ∧ b = .long) ∨ (x = true ∧ a = .long ∧ b = .short) := by
  unfold pairBit
  split
  case h_1 => simp [eq_comm]
  case h_2 => simp [eq_comm]
  case h_3 hzero hone =>
    refine iff_of_false nofun ?_
    rintro (⟨-, ha, hb⟩ | ⟨-, ha, hb⟩)
    · exact hzero ha hb
    · exact hone ha hb

/-- Every pair but the two data symbols is malformed. -/
theorem pairBit_eq_none_iff (a b : Category) :
    pairBit a b = none ↔ ¬(a = .short ∧ b = .long) ∧ ¬(a = .long ∧ b = .short) := by
  simp only [Option.eq_none_iff_forall_ne_some, ne_eq, pairBit_eq_some_iff, Bool.forall_bool]
  simp

end Sys2Proof

namespace Sys2Proof.Machine

/-! ### A sample steps the engine by its category (20_memory.md R66) -/

section Samples
variable {s t : State} {v : Duration} {c : Category}

/-- How a sample reads depends on the mode and the windows alone. -/
theorem SampleHasCategory.congr (h : SampleHasCategory s v c) (hcfg : t.cfg = s.cfg) (hmode : t.rx.mode = s.rx.mode) :
    SampleHasCategory t v c := by
  rwa [SampleHasCategory, hcfg, hmode]

theorem stepSample_of_category (h : SampleHasCategory s v c) : stepSample v s = stepCategory c s := by
  obtain ⟨hmode, rfl⟩ | ⟨hmode, rfl⟩ := h
  · exact stepSample_cat v hmode
  · exact stepSample_dur v hmode

theorem exec_sample_of_category (hbusy : s.rx.phase ≠ .idle) (h : SampleHasCategory s v c) :
    exec (.portword false v) s = .next (stepCategory c s) := by
  rw [exec_portword, rxPush_more v hbusy, stepSample_of_category h]

theorem codeSample_hasCategory (hmode : s.rx.mode = .cat) (c : Category) : SampleHasCategory s (codeSample c) c :=
  .inl ⟨hmode, catDecode_codeSample c⟩

end Samples

/-! ### Phase DATA, case by case (41_bitdecoder.md R145 to R147) -/

section Data
variable {s : State} {c : Category}

theorem stepData_gap (s : State) : stepData .gap s = raiseErr .unexpectedLength s := if_pos rfl

theorem stepData_first (hc : c ≠ .gap) (hhalf : s.rx.half = false) : stepData c s = stepFirst c s := by
  simp [stepData, hc, hhalf]

theorem stepData_second (hc : c ≠ .gap) (hhalf : s.rx.half = true) : stepData c s = stepSecond c s := by
  simp [stepData, hc, hhalf]

theorem stepSecond_of_some {x : Bool} (hpair : pairBit (catDecode s.rx.first) c = some x) :
    stepSecond c s = collectBit x s := by
  simp [stepSecond, hpair]

theorem stepSecond_of_none (hpair : pairBit (catDecode s.rx.first) c = none) :
    stepSecond c s = s.withRx { s.rx with half := false, err := .malformedPulsePair, phase := .flush } := by
  simp [stepSecond, hpair, raiseErr]

end Data

/-! ### One sample that is not the last (41_bitdecoder.md R144 to R149) -/

/-- Settles O30: the step of HUNT. -/
theorem huntSkipsUntilTheSync : Obligations.HuntSkipsUntilTheSync := by
  intro s v c hphase hread
  rw [exec_sample_of_category (by simp [hphase]) hread, stepCategory_hunt c hphase, stepHunt]

/-- Settles O31: the step of DATA with no pulse held. -/
theorem firstPulseOfAPairIsHeld : Obligations.FirstPulseOfAPairIsHeld := by
  intro s v c hphase hhalf hc hread
  rw [exec_sample_of_category (by simp [hphase]) hread, stepCategory_data c hphase, stepData_first hc hhalf, stepFirst]

/-- Settles O32: DATA looks for the GAP before it looks at the held pulse. -/
theorem gapAmongTheDataIsUnexpectedLength : Obligations.GapAmongTheDataIsUnexpectedLength := by
  intro s v hphase hread
  rw [exec_sample_of_category (by simp [hphase]) hread, stepCategory_data _ hphase, stepData_gap, raiseErr]

/-- Settles O33: the held code and the second category are a row of the pair table or are malformed. -/
theorem secondPulseMakesABitOrAnError : Obligations.SecondPulseMakesABitOrAnError := by
  intro s v c hphase hhalf hc hread
  have hexec : exec (.portword false v) s = .next (stepSecond c s) := by
    rw [exec_sample_of_category (by simp [hphase]) hread, stepCategory_data c hphase, stepData_second hc hhalf]
  constructor
  · intro b hgood
    have hpair : pairBit (catDecode s.rx.first) c = some b := by
      rwa [pairBit_eq_some_iff, catDecode_eq_short_iff, catDecode_eq_long_iff]
    refine ⟨shiftIn s.rx.sr b, shiftIn_toNat _ _, ?_⟩
    rw [hexec, stepSecond_of_some hpair, collectBit, hphase]
  · intro hbad
    have hpair : pairBit (catDecode s.rx.first) c = none := by
      rwa [pairBit_eq_none_iff, catDecode_eq_short_iff, catDecode_eq_long_iff]
    rw [hexec, stepSecond_of_none hpair]

/-- Settles O34: the step of TAIL. -/
theorem tailPulseSettlesTheBurst : Obligations.TailPulseSettlesTheBurst := by
  intro s v c hphase hread
  rw [exec_sample_of_category (by simp [hphase]) hread, stepCategory_tail c hphase, stepTail, raiseErr]

/-- Settles O35: FLUSH takes no step in any mode. -/
theorem flushIgnoresSamples : Obligations.FlushIgnoresSamples := by
  intro s v hphase
  rw [exec_portword, rxPush_more v (by simp [hphase]), stepSample_flush v hphase]

/-- Settles O42: each row is its code pushed as a sample, so O31 and O32 say what it does. -/
theorem categoryCodesEnterThePair : Obligations.CategoryCodesEnterThePair := by
  intro s hphase hmode hhalf
  have hheld {c : Category} (hc : c ≠ .gap) :
      exec (.portword false (codeSample c)) s = .next (s.withRx { s.rx with first := c.code, half := true }) :=
    firstPulseOfAPairIsHeld s _ c hphase hhalf hc (codeSample_hasCategory hmode c)
  have hgap := gapAmongTheDataIsUnexpectedLength s _ hphase (codeSample_hasCategory hmode .gap)
  exact ⟨hheld (c := .unknown) nofun, hheld (c := .short) nofun, hheld (c := .long) nofun, hheld (c := .sync) nofun,
    hgap⟩

/-! ### The last sample (41_bitdecoder.md R150, 42_framecodec_decode.md R164, R165) -/

/-- The error code the end-of-burst checks leave (41_bitdecoder.md R150, 42_framecodec_decode.md R164). -/
def endErr (e : RxEngine) : ErrCode :=
  if (e.phase = .hunt ∨ e.phase = .data) ∧ e.err = .noError then .unexpectedLength
  else if e.phase = .bits ∧ e.cnt ≠ 40 then .lengthMismatch
  else e.err

theorem endErr_of_unfinished {e : RxEngine} (hphase : e.phase = .hunt ∨ e.phase = .data) (herr : e.err = .noError) :
    endErr e = .unexpectedLength := if_pos ⟨hphase, herr⟩

theorem endErr_of_settled {e : RxEngine} (hphase : e.phase ≠ .hunt ∧ e.phase ≠ .data ∨ e.err ≠ .noError)
    (hbits : e.phase ≠ .bits ∨ e.cnt = 40) : endErr e = e.err := by
  rw [endErr, if_neg (by tauto), if_neg (by tauto)]

/-- The end-of-burst checks write that code and nothing else. -/
theorem endCheck_eq (s : State) : endCheck s = s.withRx { s.rx with err := endErr s.rx } := by
  have hrecord {e : ErrCode} (h : endErr s.rx = e) : recordErr e s = s.withRx { s.rx with err := endErr s.rx } := by
    rw [h, recordErr]
  have hkeep (h : endErr s.rx = s.rx.err) : s = s.withRx { s.rx with err := endErr s.rx } := by
    rw [h, State.withRx_self]
  unfold endCheck
  split
  case h_1 hphase | h_2 hphase =>
    split
    next herr => exact hrecord (endErr_of_unfinished (by simp [hphase]) herr)
    next herr => exact hkeep (endErr_of_settled (.inr herr) (by simp [hphase]))
  case h_3 hphase =>
    split
    next hcnt => exact hrecord (by simpa [endErr, hphase] using fun h => absurd h hcnt)
    next hcnt => exact hkeep (endErr_of_settled (by simp [hphase]) (.inr (not_not.1 hcnt)))
  case h_4 hphase | h_5 hphase | h_6 hphase =>
    exact hkeep (endErr_of_settled (by simp [hphase]) (by simp [hphase]))

/-- Settles O37: `endCheck_eq` gives the error code, and finalisation reads the results off it. -/
theorem lastSampleWritesTheResults : Obligations.LastSampleWritesTheResults := by
  intro s v hbusy
  refine ⟨stepSample v s, ?_, ?_⟩
  · rw [exec_portword, rxPush_more v hbusy]
  · rw [exec_portword, rxPush_last v hbusy, endCheck_eq]
    rfl

/-! ### A burst as its categories -/

/-- The step of each category in turn. -/
def stepCategories (cs : List Category) (s : State) : State := cs.foldl (fun t c => stepCategory c t) s

@[simp] theorem stepCategories_nil (s : State) : stepCategories [] s = s := rfl

@[simp] theorem stepCategories_cons (c : Category) (cs : List Category) (s : State) :
    stepCategories (c :: cs) s = stepCategories cs (stepCategory c s) := rfl

theorem stepCategories_flush {s : State} (cs : List Category) (hphase : s.rx.phase = .flush) :
    stepCategories cs s = s := by
  induction cs with
  | nil => rfl
  | cons c cs ih => rw [stepCategories_cons, stepCategory_flush c hphase, ih]

/-- The sequencer changes the RX engine alone. -/
theorem stepCategories_shape (cs : List Category) (s : State) :
    stepCategories cs s = s.withRx (stepCategories cs s).rx := by
  induction cs generalizing s with
  | nil => rfl
  | cons c cs ih =>
    have hstep : stepCategory c s = s.withRx (stepCategory c s).rx :=
      State.eq_of_parts (by simp) (by simp) (by simp) (by simp) (by simp) (by simp) rfl (by simp) (by simp)
    rw [stepCategories_cons, ih, hstep, State.withRx_withRx, State.withRx_rx]

@[simp] theorem stepCategories_cfg (cs : List Category) (s : State) : (stepCategories cs s).cfg = s.cfg := by
  rw [stepCategories_shape, State.withRx_cfg]

@[simp] theorem stepCategories_flags (cs : List Category) (s : State) : (stepCategories cs s).flags = s.flags := by
  rw [stepCategories_shape, State.withRx_flags]

@[simp] theorem stepCategories_rxRes (cs : List Category) (s : State) : (stepCategories cs s).rxRes = s.rxRes := by
  rw [stepCategories_shape, State.withRx_rxRes]

/-- A nonempty burst is the step of each category it is read as, the end-of-burst checks and finalisation
(20_memory.md R66). -/
theorem pushBurst_eq_stepCategories {vs : List Duration} {s : State} {read : Duration → Category} (hne : vs ≠ [])
    (hbusy : s.rx.phase ≠ .idle) (hread : ∀ v, SampleHasCategory s v (read v)) :
    pushBurst vs s = finishBurst (endCheck (stepCategories (vs.map read) s)) := by
  induction vs generalizing s with
  | nil => contradiction
  | cons v vs ih =>
    have hstep : stepSample v s = stepCategory (read v) s := stepSample_of_category (hread v)
    cases vs with
    | nil =>
      rw [pushBurst, rxPush_last v hbusy, hstep]
      rfl
    | cons w vs =>
      have hread' (x : Duration) : SampleHasCategory (stepSample v s) x (read x) :=
        (hread x).congr (stepSample_cfg v s) (stepSample_mode v s)
      rw [pushBurst_cons, rxPush_more v hbusy, ih nofun (stepSample_phase_ne_idle v hbusy) hread', hstep]
      rfl

/-! ### BitDecode, one category at a time (41_bitdecoder.md R141) -/

/-- What BitDecode makes of the elements after the SYNC while `n` pairs are still to come. -/
def decodeData (n : Nat) (data : List Category) : Except ErrCode (List Bool × Bool) :=
  match readPairs n (beforeGap data).1 with
  | .error e => .error e
  | .ok (xs, left) => if left = [] then .ok (xs, (beforeGap data).2) else .error .unexpectedLength

section DecodeData
variable {a b c : Category} (n : Nat) (cs : List Category)

theorem bitDecode_cons_sync : bitDecode (.sync :: cs) = decodeData 40 cs := rfl

theorem bitDecode_cons_of_ne_sync (hc : c ≠ .sync) : bitDecode (c :: cs) = bitDecode cs := by
  rw [bitDecode, afterSync, if_neg hc, bitDecode]

theorem beforeGap_cons_of_ne_gap (hc : c ≠ .gap) :
    beforeGap (c :: cs) = (c :: (beforeGap cs).1, (beforeGap cs).2) := if_neg hc

theorem decodeData_zero_nil : decodeData 0 [] = .ok ([], false) := rfl

theorem decodeData_zero_cons_gap : decodeData 0 (.gap :: cs) = .ok ([], true) := rfl

theorem decodeData_zero_cons_of_ne_gap (hc : c ≠ .gap) : decodeData 0 (c :: cs) = .error .unexpectedLength := by
  simp [decodeData, beforeGap_cons_of_ne_gap cs hc, readPairs]

theorem decodeData_succ_nil : decodeData (n + 1) [] = .error .unexpectedLength := rfl

theorem decodeData_succ_gap : decodeData (n + 1) (.gap :: cs) = .error .unexpectedLength := rfl

theorem decodeData_succ_single (ha : a ≠ .gap) : decodeData (n + 1) [a] = .error .unexpectedLength := by
  rw [decodeData, beforeGap_cons_of_ne_gap [] ha]
  rfl

theorem decodeData_succ_cons_gap (ha : a ≠ .gap) :
    decodeData (n + 1) (a :: .gap :: cs) = .error .unexpectedLength := by
  rw [decodeData, beforeGap_cons_of_ne_gap _ ha]
  rfl

/-- A malformed pair is the first defect met, whatever follows it. -/
theorem decodeData_succ_malformed (ha : a ≠ .gap) (hb : b ≠ .gap) (hpair : pairBit a b = none) :
    decodeData (n + 1) (a :: b :: cs) = .error .malformedPulsePair := by
  simp [decodeData, beforeGap_cons_of_ne_gap _ ha, beforeGap_cons_of_ne_gap _ hb, readPairs, hpair]

/-- A good pair puts its bit before those of the rest. -/
theorem decodeData_succ_pair {x : Bool} (ha : a ≠ .gap) (hb : b ≠ .gap) (hpair : pairBit a b = some x) :
    decodeData (n + 1) (a :: b :: cs) = (decodeData n cs).map fun r => (x :: r.1, r.2) := by
  simp only [decodeData, beforeGap_cons_of_ne_gap _ ha, beforeGap_cons_of_ne_gap _ hb, readPairs, hpair]
  cases readPairs n (beforeGap cs).1 with
  | error e => rfl
  | ok r =>
    by_cases hleft : r.2 = []
    · simp [hleft, Except.map]
    · simp [hleft, Except.map]

end DecodeData

/-! ### What a burst leaves in the engine -/

/-- The outcome in the engine after the end-of-burst checks: its word and GAP flag, or its error code. -/
def burstOutcome (s : State) : Except ErrCode (FrameWord × Bool) :=
  if endErr s.rx = .noError then .ok (s.rx.sr, s.rx.gap) else .error (endErr s.rx)

/-- What an engine that holds `sr` makes of decoded bits: they are shifted in behind it (30_encoding.md R97). -/
def shiftedIn (sr : FrameWord) (r : List Bool × Bool) : FrameWord × Bool := (r.1.foldl shiftIn sr, r.2)

/-- An engine between two pairs with `n` still to come: in DATA, or in TAIL when none is left (10_state.md R33, R36). -/
structure Collecting (n : Nat) (e : RxEngine) : Prop where
  phase_eq : e.phase = if n = 0 then .tail else .data
  half_eq : e.half = false
  cnt_add : e.cnt.toNat + n = 40
  err_eq : e.err = .noError
  gap_eq : e.gap = false

section Outcome
variable {s : State}

/-- An error raised in the burst is its outcome, whatever samples follow (41_bitdecoder.md R149). -/
theorem burstOutcome_of_flush {e : ErrCode} (cs : List Category) (hphase : s.rx.phase = .flush) (herr : s.rx.err = e)
    (he : e ≠ .noError) : burstOutcome (stepCategories cs s) = .error e := by
  rw [stepCategories_flush cs hphase]
  simp [burstOutcome, endErr, hphase, herr, he]

/-- A burst that ends before its fortieth bit is too short (41_bitdecoder.md R150). -/
theorem burstOutcome_of_unfinished (hphase : s.rx.phase = .hunt ∨ s.rx.phase = .data) (herr : s.rx.err = .noError) :
    burstOutcome s = .error .unexpectedLength := by
  simp [burstOutcome, endErr, hphase, herr]

/-- The fortieth bit leads to TAIL, an earlier one back to DATA (41_bitdecoder.md R147). -/
theorem collecting_collectBit {n : Nat} {x : Bool} (hphase : s.rx.phase = .data)
    (hcnt : s.rx.cnt.toNat + (n + 1) = 40) (herr : s.rx.err = .noError) (hgap : s.rx.gap = false) :
    Collecting n (collectBit x s).rx where
  phase_eq := by
    have hlast : s.rx.cnt + 1 = 40 ↔ n = 0 := by
      rw [← BitVec.toNat_inj, BitVec.toNat_add_of_lt (by simp; omega)]
      simp
      omega
    simp only [collectBit, State.withRx_rx, hlast, hphase]
  half_eq := rfl
  cnt_add := by
    have hsucc : (s.rx.cnt + 1).toNat = s.rx.cnt.toNat + 1 := BitVec.toNat_add_of_lt (by simp; omega)
    simp only [collectBit, State.withRx_rx, hsucc]
    omega
  err_eq := herr
  gap_eq := hgap

/-- TAIL settles the burst as BitDecode does with no pair left to read (41_bitdecoder.md R148). -/
theorem burstOutcome_tail (cs : List Category) (h : Collecting 0 s.rx) :
    burstOutcome (stepCategories cs s) = (decodeData 0 cs).map (shiftedIn s.rx.sr) := by
  have hphase : s.rx.phase = .tail := h.phase_eq
  cases cs with
  | nil => simp [burstOutcome, endErr, hphase, h.err_eq, h.gap_eq, decodeData_zero_nil, Except.map, shiftedIn]
  | cons c cs =>
    rw [stepCategories_cons, stepCategory_tail c hphase, stepTail]
    split
    next hc =>
      rw [hc, decodeData_zero_cons_gap, stepCategories_flush cs rfl]
      simp [burstOutcome, endErr, h.err_eq, Except.map, shiftedIn]
    next hc =>
      rw [decodeData_zero_cons_of_ne_gap cs hc]
      exact burstOutcome_of_flush cs rfl rfl nofun

/-- From between two pairs on, the sequencer comes to what BitDecode makes of the elements to come, its bits shifted in
behind those already held (41_bitdecoder.md R151). -/
theorem burstOutcome_data {n : Nat} (cs : List Category) (h : Collecting n s.rx) :
    burstOutcome (stepCategories cs s) = (decodeData n cs).map (shiftedIn s.rx.sr) := by
  induction n generalizing cs s with
  | zero => exact burstOutcome_tail cs h
  | succ n ih =>
    have hphase : s.rx.phase = .data := h.phase_eq
    cases cs with
    | nil =>
      rw [decodeData_succ_nil]
      exact burstOutcome_of_unfinished (.inr hphase) h.err_eq
    | cons a cs =>
      rw [stepCategories_cons, stepCategory_data a hphase]
      by_cases ha : a = .gap
      · rw [ha, decodeData_succ_gap, stepData_gap]
        exact burstOutcome_of_flush cs rfl rfl nofun
      rw [stepData_first ha h.half_eq]
      have hphase' : (stepFirst a s).rx.phase = .data := hphase
      have hfirst : catDecode (stepFirst a s).rx.first = a := catDecode_code a
      cases cs with
      | nil =>
        rw [decodeData_succ_single n ha]
        exact burstOutcome_of_unfinished (.inr hphase') h.err_eq
      | cons b cs =>
        rw [stepCategories_cons, stepCategory_data b hphase']
        by_cases hb : b = .gap
        · rw [hb, decodeData_succ_cons_gap n cs ha, stepData_gap]
          exact burstOutcome_of_flush cs rfl rfl nofun
        rw [stepData_second hb rfl]
        cases hpair : pairBit a b with
        | none =>
          rw [decodeData_succ_malformed n cs ha hb hpair, stepSecond_of_none (hfirst.symm ▸ hpair)]
          exact burstOutcome_of_flush cs rfl rfl nofun
        | some x =>
          rw [decodeData_succ_pair n cs ha hb hpair, stepSecond_of_some (hfirst.symm ▸ hpair),
            ih cs (collecting_collectBit hphase' h.cnt_add h.err_eq h.gap_eq)]
          cases decodeData n cs <;> rfl

/-- HUNT skips what BitDecode drops before the SYNC (41_bitdecoder.md R144). -/
theorem burstOutcome_hunt (cs : List Category) (hphase : s.rx.phase = .hunt)
    (h : Collecting 40 { s.rx with phase := .data }) :
    burstOutcome (stepCategories cs s) = (bitDecode cs).map (shiftedIn s.rx.sr) := by
  induction cs with
  | nil => exact burstOutcome_of_unfinished (.inl hphase) h.err_eq
  | cons c cs ih =>
    rw [stepCategories_cons, stepCategory_hunt c hphase, stepHunt]
    split
    next hc =>
      rw [hc, bitDecode_cons_sync]
      exact burstOutcome_data cs h
    next hc => rw [bitDecode_cons_of_ne_sync cs hc, ih]

end Outcome

/-! ### The results of a burst -/

theorem bitDecode_length {cats : List Category} {r : List Bool × Bool} (h : bitDecode cats = .ok r) :
    r.1.length = 40 := by
  obtain ⟨-, -, hlen, -⟩ := bitDecode_ok h
  exact hlen

/-- Parsing forty decoded bits gives the results finalisation writes (42_framecodec_decode.md R161, R165). -/
theorem goodResults_eq_resultsOf {s : State} {r : List Bool × Bool} (hlen : r.1.length = 40)
    (hsr : s.rx.sr = wordOfBits r.1) (hgap : s.rx.gap = r.2) :
    goodResults s = resultsOf (parseDecoded s.cfg (.ok r)) := by
  simp [goodResults, parseDecoded, frameParse, hlen, resultsOf, hsr, hgap, frameOf_fields]

/-- From cleared results a burst leaves those of its outcome, parsed (42_framecodec_decode.md R168). -/
theorem finishBurst_endCheck_rxRes {s : State} {d : Except ErrCode (List Bool × Bool)} (hclear : s.rxRes = .zero)
    (hlen : ∀ r, d = .ok r → r.1.length = 40) (hout : burstOutcome s = d.map (shiftedIn 0)) :
    (finishBurst (endCheck s)).rxRes = resultsOf (parseDecoded s.cfg d) := by
  rw [finishBurst_rxRes, endCheck_eq]
  unfold burstOutcome at hout
  cases d with
  | error e =>
    split at hout
    · contradiction
    next hbad =>
      obtain rfl : endErr s.rx = e := Except.error.inj hout
      simp [hbad, badResults, hclear, parseDecoded, resultsOf, RxResults.zero]
  | ok r =>
    split at hout
    next hgood =>
      obtain ⟨hsr, hgap⟩ := Prod.mk.inj (Except.ok.inj hout)
      rw [State.withRx_rx, if_pos hgood]
      exact goodResults_eq_resultsOf (hlen r rfl) hsr hgap
    · contradiction

/-- A burst of categories after its command: the results are those of BitDecode of the categories, parsed, and nothing
outside the RX engine, its results and rx_done changes (41_bitdecoder.md R151). -/
theorem pushBurst_armRx_hunt {m : RxMode} {vs : List Duration} {s : State} {read : Duration → Category}
    (hne : vs ≠ []) (hread : ∀ v, SampleHasCategory (armRx m .hunt s) v (read v)) :
    ∃ e : RxEngine, e.phase = .idle ∧
      pushBurst vs (armRx m .hunt s) =
        ((s.withRx e).withRxRes (resultsOf (parseDecoded s.cfg (bitDecode (vs.map read))))).withFlags
          { s.flags with rxDone := true } := by
  have hburst := pushBurst_eq_stepCategories hne (by simp) hread
  have hout := burstOutcome_hunt (s := armRx m .hunt s) (vs.map read) rfl ⟨rfl, rfl, rfl, rfl, rfl⟩
  have hres := finishBurst_endCheck_rxRes (by simp) (fun _ => bitDecode_length) hout
  refine ⟨(pushBurst vs (armRx m .hunt s)).rx, (pushBurst_finishes hne (by simp)).2, ?_⟩
  refine State.eq_of_parts ?cfg ?opr ?flags ?resCat ?resCk ?rxRes rfl ?tx ?host
  case flags => rw [hburst]; simp
  case rxRes => rw [hburst, hres]; simp
  all_goals simp

/-- Settles O38: BITDEC reads its samples as codes and RXBURST as durations. -/
theorem sequencerComputesBitDecode : Obligations.SequencerComputesBitDecode := by
  rintro s vs hidle hne cmd (rfl | rfl)
  · have hread (v : Duration) : SampleHasCategory (armRx .cat .hunt s) v (catDecode (v.setWidth 3)) := .inl ⟨rfl, rfl⟩
    obtain ⟨e, he, hburst⟩ := pushBurst_armRx_hunt hne hread
    exact ⟨e, he, (execAll_rxCommand_burstOf (fun _ => rfl) hidle vs).trans (congrArg _ hburst)⟩
  · have hread (v : Duration) : SampleHasCategory (armRx .dur .hunt s) v (classify s.cfg v.toNat) := .inr ⟨rfl, rfl⟩
    obtain ⟨e, he, hburst⟩ := pushBurst_armRx_hunt hne hread
    exact ⟨e, he, (execAll_rxCommand_burstOf (fun _ => rfl) hidle vs).trans (congrArg _ hburst)⟩

end Sys2Proof.Machine
end

section
/-! PROOFS. The statements of 42_framecodec_decode.md: parsing and serialising are inverse (R170), a bit of FDEC is
counted and shifted in (R163), and the bursts of FDEC and RXBURST come to FrameParse and RxDecode (R160, R161, R166). -/

namespace Sys2Proof

/-! ### Forty bits displace what the shift register held (10_state.md R36) -/

/-- The bits shifted in last do not depend on what the register held before. -/
theorem foldl_shiftIn_getLsbD_congr (sr sr' : FrameWord) (xs : List Bool) {i : Nat} (hi : i < 40)
    (hlen : i < xs.length) : (xs.foldl shiftIn sr).getLsbD i = (xs.foldl shiftIn sr').getLsbD i := by
  induction xs using List.reverseRecOn generalizing i with
  | nil => contradiction
  | append_singleton xs x ih =>
    rw [List.foldl_append, List.foldl_append, List.foldl_cons, List.foldl_nil, List.foldl_cons, List.foldl_nil,
      shiftIn_getLsbD _ x hi, shiftIn_getLsbD _ x hi]
    split
    next => rfl
    next hpos =>
      rw [List.length_append, List.length_singleton] at hlen
      exact ih (by omega) (by omega)

/-- Forty bits shifted in make their word, whatever the register held. -/
theorem foldl_shiftIn_eq_wordOfBits (sr : FrameWord) {xs : List Bool} (hlen : xs.length = 40) :
    xs.foldl shiftIn sr = wordOfBits xs :=
  BitVec.eq_of_getLsbD_eq fun _ hi => foldl_shiftIn_getLsbD_congr sr 0 xs hi (hlen ▸ hi)

end Sys2Proof

namespace Sys2Proof.Machine

/-! ### FrameParse of a frame word (42_framecodec_decode.md R161, R170) -/

theorem frameParse_frameBits (g : CfgRegs) (w : FrameWord) :
    frameParse g (frameBits w) =
      .ok
        { remote := wordRemote w, channel := wordChannel w, command := wordCommand w, check := wordCheck w
          expected := checksum g (wordRemote w) (wordChannel w) (wordCommand w)
          valid := decide (wordCheck w = checksum g (wordRemote w) (wordChannel w) (wordCommand w)) } := by
  rw [frameParse, if_neg (not_not.2 (frameBits_length w)), wordOfBits_frameBits]

theorem frameParse_of_length_ne (g : CfgRegs) {xs : List Bool} (hlen : xs.length ≠ 40) :
    frameParse g xs = .error .lengthMismatch := if_pos hlen

/-- Settles O5: parsing reads the fields of the word, and the word is its fields side by side. -/
theorem parseAndSerialiseAreInverse : Obligations.ParseAndSerialiseAreInverse := by
  constructor
  · intro g w
    exact ⟨_, frameParse_frameBits g w, rfl, rfl, rfl, rfl, frameOf_fields w⟩
  · intro g r h c
    rw [frameParse_frameBits, frameWord]
    simp

/-! ### One bit of an FDEC burst (42_framecodec_decode.md R163) -/

/-- A bit presented as a sample is read back from bit 0 (30_encoding.md R103). -/
theorem bitSample_getLsbD_zero (b : Bool) : (bitSample b).getLsbD 0 = b := by cases b <;> rfl

section BitStep
variable {s : State}

theorem stepSample_bits (v : Duration) (hphase : s.rx.phase = .bits) (hmode : s.rx.mode = .bit) :
    stepSample v s = stepBits (v.getLsbD 0) s := by
  simp [stepSample_bit v hmode, stepBit, hphase]

/-- The count saturates at 41, "more than 40". -/
theorem stepBits_cnt_toNat (b : Bool) (hcnt : s.rx.cnt.toNat ≤ 41) :
    (stepBits b s).rx.cnt.toNat = min (s.rx.cnt.toNat + 1) 41 := by
  simp only [stepBits, State.withRx_rx]
  split
  next hlt =>
    have hsucc : (s.rx.cnt + 1).toNat = s.rx.cnt.toNat + 1 := BitVec.toNat_add_of_lt (by simp; omega)
    omega
  next => omega

theorem stepBits_sr (b : Bool) (s : State) :
    (stepBits b s).rx.sr = if s.rx.cnt.toNat < 40 then shiftIn s.rx.sr b else s.rx.sr := rfl

/-- A bit changes the shift register and the count alone. -/
theorem stepBits_shape (b : Bool) (s : State) :
    stepBits b s = s.withRx { s.rx with sr := (stepBits b s).rx.sr, cnt := (stepBits b s).rx.cnt } := rfl

end BitStep

/-- Settles O36: the sample's bit 0 is its value modulo 2. -/
theorem bitPhaseCollectsFortyBits : Obligations.BitPhaseCollectsFortyBits := by
  intro s v hphase hmode hcnt
  have hexec : exec (.portword false v) s = .next (stepBits (v.getLsbD 0) s) := by
    rw [exec_portword, rxPush_more v (by simp [hphase]), stepSample_bits v hphase hmode]
  refine ⟨_, _, hexec.trans (congrArg _ (stepBits_shape _ s)), ?_, stepBits_cnt_toNat _ hcnt⟩
  have hbit : (v.getLsbD 0).toNat = v.toNat % 2 := by
    rw [BitVec.getLsbD, Nat.toNat_testBit, Nat.pow_zero, Nat.div_one]
  rw [stepBits_sr, apply_ite BitVec.toNat, shiftIn_toNat, hbit]

/-! ### A burst of bits -/

section BitBurst
variable {s : State}

/-- The engine after the bits of a burst: those that still fit are shifted in, and all are counted up to 41. -/
def bitsCollected (xs : List Bool) (e : RxEngine) : RxEngine :=
  { e with
    sr := (xs.take (40 - e.cnt.toNat)).foldl shiftIn e.sr
    cnt := BitVec.ofNat 6 (min (e.cnt.toNat + xs.length) 41) }

theorem bitsCollected_nil {e : RxEngine} (hcnt : e.cnt.toNat ≤ 41) : bitsCollected [] e = e := by
  simp [bitsCollected, hcnt]

/-- The first bit takes its step, the others follow. -/
theorem bitsCollected_cons (x : Bool) (xs : List Bool) (hcnt : s.rx.cnt.toNat ≤ 41) :
    bitsCollected (x :: xs) s.rx = bitsCollected xs (stepBits x s).rx := by
  have hnext := stepBits_cnt_toNat x hcnt
  have hcount : min (s.rx.cnt.toNat + (x :: xs).length) 41 = min ((stepBits x s).rx.cnt.toNat + xs.length) 41 := by
    rw [List.length_cons]
    omega
  have hshift : ((x :: xs).take (40 - s.rx.cnt.toNat)).foldl shiftIn s.rx.sr =
      (xs.take (40 - (stepBits x s).rx.cnt.toNat)).foldl shiftIn (stepBits x s).rx.sr := by
    rw [stepBits_sr]
    split
    next hlt =>
      have hroom : 40 - s.rx.cnt.toNat = (40 - (stepBits x s).rx.cnt.toNat) + 1 := by omega
      rw [hroom, List.take_succ_cons, List.foldl_cons]
    next hfull =>
      have hnone : 40 - s.rx.cnt.toNat = 0 := by omega
      have hnone' : 40 - (stepBits x s).rx.cnt.toNat = 0 := by omega
      rw [hnone, hnone', List.take_zero, List.take_zero]
  rw [bitsCollected, hcount, hshift]
  rfl

/-- Forty bits from a count of 0 leave their word in the shift register and a full count. -/
theorem bitsCollected_of_length {xs : List Bool} {e : RxEngine} (hcnt : e.cnt = 0) (hlen : xs.length = 40) :
    bitsCollected xs e = { e with sr := wordOfBits xs, cnt := 40 } := by
  simp [bitsCollected, hcnt, hlen, List.take_of_length_le hlen.le, foldl_shiftIn_eq_wordOfBits _ hlen]

/-- A nonempty burst under FDEC collects bit 0 of each sample, checks and finalises (20_memory.md R66). -/
theorem pushBurst_eq_bitsCollected {vs : List Duration} (hne : vs ≠ []) (hphase : s.rx.phase = .bits)
    (hmode : s.rx.mode = .bit) (hcnt : s.rx.cnt.toNat ≤ 41) :
    pushBurst vs s = finishBurst (endCheck (s.withRx (bitsCollected (vs.map fun v => v.getLsbD 0) s.rx))) := by
  induction vs generalizing s with
  | nil => contradiction
  | cons v vs ih =>
    have hbusy : s.rx.phase ≠ .idle := by simp [hphase]
    have hle : (stepBits (v.getLsbD 0) s).rx.cnt.toNat ≤ 41 := by
      rw [stepBits_cnt_toNat _ hcnt]
      exact Nat.min_le_right _ _
    rw [List.map_cons, bitsCollected_cons _ _ hcnt]
    cases vs with
    | nil =>
      rw [pushBurst, rxPush_last v hbusy, stepSample_bits v hphase hmode, List.map_nil, bitsCollected_nil hle]
      rfl
    | cons w vs =>
      rw [pushBurst_cons, rxPush_more v hbusy, stepSample_bits v hphase hmode,
        ih (s := stepBits (v.getLsbD 0) s) nofun hphase hmode hle]
      rfl

/-- From a freshly armed FDEC, forty bits make a word and any other number is a length mismatch
(42_framecodec_decode.md R164). -/
theorem burstOutcome_bitsCollected (xs : List Bool) (hphase : s.rx.phase = .bits) (hcnt : s.rx.cnt = 0)
    (herr : s.rx.err = .noError) :
    burstOutcome (s.withRx (bitsCollected xs s.rx)) =
      if xs.length = 40 then .ok (wordOfBits xs, s.rx.gap) else .error .lengthMismatch := by
  have hcount : (bitsCollected xs s.rx).cnt = 40 ↔ xs.length = 40 := by
    rw [← BitVec.toNat_inj, bitsCollected, hcnt, BitVec.toNat_ofNat]
    simp
    omega
  have hend : endErr (bitsCollected xs s.rx) = if xs.length = 40 then .noError else .lengthMismatch := by
    have hphase' : (bitsCollected xs s.rx).phase = .bits := hphase
    have herr' : (bitsCollected xs s.rx).err = .noError := herr
    simp [endErr, hphase', herr', ← hcount]
  rw [burstOutcome, State.withRx_rx, hend]
  split
  next hlen =>
    rw [if_pos rfl, bitsCollected_of_length hcnt hlen]
  next => exact if_neg nofun

/-- From cleared results such a burst leaves those of FrameParse of its bits (42_framecodec_decode.md R161, R168). -/
theorem finishBurst_bitsCollected_rxRes (xs : List Bool) (hclear : s.rxRes = .zero) (hphase : s.rx.phase = .bits)
    (hcnt : s.rx.cnt = 0) (herr : s.rx.err = .noError) :
    (finishBurst (endCheck (s.withRx (bitsCollected xs s.rx)))).rxRes =
      resultsOf (parseDecoded s.cfg (.ok (xs, s.rx.gap))) := by
  have hout := burstOutcome_bitsCollected xs hphase hcnt herr
  by_cases hlen : xs.length = 40
  · rw [if_pos hlen] at hout
    refine finishBurst_endCheck_rxRes (d := .ok (xs, s.rx.gap)) hclear ?_ hout
    rintro _ ⟨⟩
    exact hlen
  · rw [if_neg hlen] at hout
    have hparse : parseDecoded s.cfg (.ok (xs, s.rx.gap)) = parseDecoded s.cfg (.error .lengthMismatch) := by
      simp [parseDecoded, frameParse_of_length_ne s.cfg hlen]
    rw [hparse]
    exact finishBurst_endCheck_rxRes (d := .error .lengthMismatch) hclear nofun hout

/-- A burst of bits after FDEC: the results are those of FrameParse of the bits, and nothing outside the RX engine, its
results and rx_done changes. -/
theorem pushBurst_armRx_bits {vs : List Duration} (hne : vs ≠ []) (s : State) :
    ∃ e : RxEngine, e.phase = .idle ∧
      pushBurst vs (armRx .bit .bits s) =
        ((s.withRx e).withRxRes
          (resultsOf (parseDecoded s.cfg (.ok (vs.map fun v => v.getLsbD 0, false))))).withFlags
          { s.flags with rxDone := true } := by
  have hburst := pushBurst_eq_bitsCollected (s := armRx .bit .bits s) hne rfl rfl (by simp)
  have hres := finishBurst_bitsCollected_rxRes (s := armRx .bit .bits s) (vs.map fun v => v.getLsbD 0) rfl rfl rfl rfl
  refine ⟨(pushBurst vs (armRx .bit .bits s)).rx, (pushBurst_finishes hne (by simp)).2, ?_⟩
  refine State.eq_of_parts ?cfg ?opr ?flags ?resCat ?resCk ?rxRes rfl ?tx ?host
  case flags => rw [hburst]; simp
  case rxRes => rw [hburst, hres]; simp
  all_goals simp

/-- The samples of a frame word under FDEC, as one burst (45_control.md R216). -/
theorem pushBurst_frameBits (w : FrameWord) (hphase : s.rx.phase = .bits) (hmode : s.rx.mode = .bit)
    (hcnt : s.rx.cnt = 0) :
    pushBurst ((frameBits w).map bitSample) s = finishBurst (s.withRx { s.rx with sr := w, cnt := 40 }) := by
  have hne : (frameBits w).map bitSample ≠ [] := List.ne_nil_of_length_pos (by simp)
  have hread : ((frameBits w).map bitSample).map (fun v => v.getLsbD 0) = frameBits w := by
    rw [List.map_map]
    exact (List.map_congr_left fun b _ => bitSample_getLsbD_zero b).trans (List.map_id _)
  have hfull : endErr { s.rx with sr := w, cnt := 40 } = s.rx.err :=
    endErr_of_settled (.inl (by simp [hphase])) (.inr rfl)
  rw [pushBurst_eq_bitsCollected hne hphase hmode (by simp [hcnt]), hread,
    bitsCollected_of_length hcnt (frameBits_length w), wordOfBits_frameBits, endCheck_eq, State.withRx_rx, hfull]
  rfl

/-- The results of a good burst that shifted in the four fields and saw no GAP (42_framecodec_decode.md R165). -/
theorem goodResults_of_frameOf {r : RemoteId} {h c : Nibble} {k : CheckByte} (hsr : s.rx.sr = frameOf r h c k)
    (hgap : s.rx.gap = false) :
    goodResults s =
      { ok := true, err := .noError, ckValid := decide (k = checksum s.cfg r h c), gapSeen := false
        remote := r, channel := h, command := c, checksum := k, expected := checksum s.cfg r h c
        bits := frameOf r h c k } := by
  simp [goodResults, hsr, hgap]

end BitBurst

/-! ### The statements about whole bursts -/

/-- Settles O39: RxDecode is the frame parser behind BitDecode of the classified durations, so O38 says it. -/
theorem rxburstComputesRxDecode : Obligations.RxburstComputesRxDecode := by
  intro s vs hidle hne
  exact sequencerComputesBitDecode s vs hidle hne .rxburst (.inr rfl)

/-- Settles O40: FDEC arms the engine for bits, with the count at 0 and no GAP seen. -/
theorem fdecComputesFrameParse : Obligations.FdecComputesFrameParse := by
  intro s vs hidle hne
  obtain ⟨e, he, hburst⟩ := pushBurst_armRx_bits hne s
  exact ⟨e, he, (execAll_rxCommand_burstOf (fun _ => rfl) hidle vs).trans (congrArg _ hburst)⟩

/-- Settles O46: the burst leaves the word in the shift register, and finalisation reads its fields off it. -/
theorem frameWordIsParsedIntoItsFields : Obligations.FrameWordIsParsedIntoItsFields := by
  intro s r h c k hphase hmode hcnt herr hgap
  have hres := goodResults_of_frameOf (s := s.withRx { s.rx with sr := frameOf r h c k, cnt := 40 }) rfl hgap
  refine congrArg Host.Outcome.next ?_
  rw [pushBurst_frameBits _ hphase hmode hcnt, finishBurst, State.withRx_rx, if_pos herr, hres]
  rfl

end Sys2Proof.Machine
end

section
/-! PROOFS. The statement of 43_checksum.md: the checksum unit in its two modes (R181, R182, R183), and CKSUM, which
writes its answer to RES_CK (R184). -/

namespace Sys2Proof.Machine

/-! ### The checksum unit (R181) -/

/-- CONSTANT mode: the answer is CK_CONST, whatever the payload is (R182). -/
theorem checksum_of_constant {g : CfgRegs} (hmode : g.ckMode = false) (r : RemoteId) (h c : Nibble) :
    checksum g r h c = g.ckConst := by
  simp [checksum, hmode]

/-- COMPUTED mode: the answer is CK_FN of the payload, whatever CK_CONST is (R183). -/
theorem checksum_of_computed {g : CfgRegs} (hmode : g.ckMode = true) (r : RemoteId) (h c : Nibble) :
    checksum g r h c = ckFn r h c := by
  simp [checksum, hmode]

/-- The one confirmed sample of CK_FN (R183); it says nothing of the open function (log entry 3). -/
theorem ckFn_confirmed : ckFn 0x98461A 4 3 = 0x32 :=
  if_pos ⟨rfl, rfl, rfl⟩

/-! ### CKSUM (R184) -/

/-- CKSUM reads no engine and no flag, so no state refuses it. -/
theorem exec_cksum (s : State) :
    exec .cksum s = .next (s.withResCk (checksum s.cfg s.opr.fRemote s.opr.fChannel s.opr.fCommand)) := rfl

/-- Settles O21: RES_CK takes the checksum unit's answer, and each clause reads that answer in one mode; the last is
COMPUTED mode at the confirmed sample. -/
theorem cksumFollowsTheChecksumMode : Obligations.CksumFollowsTheChecksumMode := by
  intro s
  refine ⟨_, exec_cksum s, ?constant, ?computed, ?confirmed⟩
  case constant => exact fun hmode => checksum_of_constant hmode _ _ _
  case computed => exact fun hmode => checksum_of_computed hmode _ _ _
  case confirmed =>
    rintro ⟨hmode, hremote, hchannel, hcommand⟩
    rw [checksum_of_computed hmode, hremote, hchannel, hcommand, ckFn_confirmed]

end Sys2Proof.Machine
end

section
/-! PROOFS. The statements of 44_framecodec_encode.md: what FENC latches and sends (R190, R191, R195), what a pop
returns (R196), TXFRAME as one instruction and as its expansion (R194), the shape of every train (R198), and the round
trip of a train through the receive port (R200). -/

namespace Sys2Proof.Machine

/-! ### FENC (R190, R191, R195) -/

/-- Settles O24: FENC is `startTx`, which an idle engine accepts. -/
theorem acceptedFencLatchesTheFrameWord : Obligations.AcceptedFencLatchesTheFrameWord :=
  fun _ hidle => congrArg Host.Outcome.next (startTx_idle hidle)

/-- The last eight frame bits are the check byte, most significant first (30_encoding.md R98). -/
theorem frameBit_checkByte (w : FrameWord) {i : Nat} (hi : i < 8) :
    frameBit w (32 + i) = (wordCheck w).getLsbD (7 - i) := by
  have hlt : 7 - i < 8 := by omega
  rw [frameBit, wordCheck, BitVec.getLsbD_extractLsb', decide_eq_true hlt, Bool.true_and]
  congr 1
  omega

/-- Settles O25: the word latched is that of O24, its check byte the checksum unit's answer. -/
theorem transmittedChecksumIsNeverStale : Obligations.TransmittedChecksumIsNeverStale := by
  intro s stale hidle
  refine ⟨_, acceptedFencLatchesTheFrameWord (s.withOpr { s.opr with fChecksum := stale }) hidle, fun i hi => ?_⟩
  set k := checksum s.cfg s.opr.fRemote s.opr.fChannel s.opr.fCommand
  have hbit : frameBit (frameOf s.opr.fRemote s.opr.fChannel s.opr.fCommand k) (32 + i) = k.getLsbD (7 - i) := by
    rw [frameBit_checkByte _ hi, wordCheck_frameOf]
  have hlt : 32 + i < 40 := by omega
  have hfirst : 66 + 2 * i = 2 + 2 * (32 + i) := by omega
  have hsecond : 67 + 2 * i = 3 + 2 * (32 + i) := by omega
  rw [hfirst, hsecond, pulseAt_first _ _ hlt, pulseAt_second _ _ hlt, ← hbit]
  exact ⟨rfl, rfl, rfl⟩

/-! ### One pop (R193, R196) -/

theorem trainPortWord_of_lt (g : CfgRegs) (w : FrameWord) {k : Nat} (hk : k < 82) :
    trainPortWord g w k = 0#1 ++ pulseAt g w k := by
  rw [trainPortWord, decide_eq_false (by omega)]
  rfl

theorem trainPortWord_last (g : CfgRegs) (w : FrameWord) : trainPortWord g w 82 = 1#1 ++ g.tGap := rfl

section Pop
variable {s : State}

theorem popRead_more (hbusy : s.flags.txBusy = true) (hk : s.tx.idx.toNat < 82) :
    popRead s =
      (withReturned [(trainPortWord s.cfg s.tx.word s.tx.idx.toNat).setWidth 40] s).withTx
        { s.tx with idx := s.tx.idx + 1 } := by
  rw [popRead, popWord_busy hbusy, popState_more hbusy hk]
  rfl

theorem popRead_last (hbusy : s.flags.txBusy = true) (hk : s.tx.idx.toNat = 82) :
    popRead s =
      ((withReturned [(trainPortWord s.cfg s.tx.word 82).setWidth 40] s).withTx { s.tx with idx := 0 }).withFlags
        { s.flags with txBusy := false, txDone := true } := by
  rw [popRead, popWord_busy hbusy, popState_last hbusy (by omega), hk]
  rfl

end Pop

/-- Settles O49: the read is a pop of the busy engine, before or at pulse 82. -/
theorem popReturnsThePulseAndAdvances : Obligations.PopReturnsThePulseAndAdvances := by
  intro s rest hp hbusy
  have hstep : step s = .next (popRead (s.withHost { s.host with pending := rest })) := step_cons hp
  have hbusy' : (s.withHost { s.host with pending := rest }).flags.txBusy = true := hbusy
  constructor
  · intro hk
    refine ⟨s.tx.idx + 1, BitVec.toNat_add_of_lt (by simp; omega), ?_⟩
    rw [hstep, popRead_more hbusy' hk, State.withHost_tx, State.withHost_cfg, trainPortWord_of_lt _ _ hk]
    rfl
  · intro hk
    rw [hstep, popRead_last hbusy' hk, trainPortWord_last]
    rfl

/-! ### A whole train popped (R192, R194) -/

/-- The values the first `n` pops of a train return. -/
def trainReads (g : CfgRegs) (w : FrameWord) (n : Nat) : List RegValue :=
  (List.range n).map fun k => (trainPortWord g w k).setWidth 40

theorem trainReads_succ (g : CfgRegs) (w : FrameWord) (n : Nat) :
    trainReads g w (n + 1) = trainReads g w n ++ [(trainPortWord g w n).setWidth 40] := by
  simp [trainReads, List.range_succ]

theorem withReturned_nil (s : State) : withReturned [] s = s := by
  rw [withReturned, List.append_nil]
  rfl

theorem withReturned_append (us vs : List RegValue) (s : State) :
    withReturned (us ++ vs) s = withReturned vs (withReturned us s) := by
  simp [withReturned]

theorem popReads_succ (n : Nat) (s : State) : popReads (n + 1) s = popRead (popReads n s) := popReads_add n 1 s

section Pops
variable {s : State} (w : FrameWord)

/-- Before pulse 82 the pops of a train return its pulses in order and move the index on. -/
theorem popReads_more {n : Nat} (hn : n ≤ 82) (hbusy : s.flags.txBusy = true) :
    popReads n (s.withTx { word := w, idx := 0 }) =
      (withReturned (trainReads s.cfg w n) s).withTx { word := w, idx := BitVec.ofNat 7 n } := by
  induction n with
  | zero => exact congrArg (State.withTx · _) (withReturned_nil s).symm
  | succ n ih =>
    have hat : (BitVec.ofNat 7 n).toNat = n := Nat.mod_eq_of_lt (by omega)
    rw [popReads_succ, ih (by omega), popRead_more, State.withTx_tx, hat, trainReads_succ, withReturned_append,
      BitVec.ofNat_add]
    · rfl
    · exact hbusy
    · rw [State.withTx_tx, hat]
      omega

/-- The 83 pops of a train return its pulses in order, and the engine is idle with tx_done. -/
theorem popReads_train (hbusy : s.flags.txBusy = true) :
    popReads 83 (s.withTx { word := w, idx := 0 }) =
      ((withReturned (trainReads s.cfg w 83) s).withTx { word := w, idx := 0 }).withFlags
        { s.flags with txBusy := false, txDone := true } := by
  rw [popReads_succ, popReads_more w (le_refl 82) hbusy, popRead_last, trainReads_succ _ _ 82, withReturned_append]
  · rfl
  · exact hbusy
  · rfl

end Pops

/-- Settles O51: the operand writes and the accepted FENC leave an engine whose train `popReads_train` pops. -/
theorem txframeReturnsTheWholeTrain : Obligations.TxframeReturnsTheWholeTrain := by
  intro s r h c hidle
  refine congrArg Host.Outcome.next ?_
  rw [writePayload_opr, startTx_idle]
  · exact popReads_train (s := State.withFlags _ _) _ rfl
  · exact hidle

/-! ### TXFRAME as its expansion (R194, 45_control.md R216) -/

section Expansion
variable (es : List HostEvent) (s : State)

theorem writeReg_operand_lineUp {r : Reg} (hr : r.isOperand = true) (v : Nat) :
    writeReg r v (lineUp es s) = lineUp es (writeReg r v s) := by
  rw [writeReg_operand v _ hr, writeReg_operand v _ hr]
  rfl

theorem startTx_lineUp : startTx (lineUp es s) = lineUp es (startTx s) := by
  cases hbusy : s.flags.txBusy
  · rw [startTx_idle hbusy, startTx_idle (s := lineUp es s) hbusy]
    rfl
  · rw [startTx_busy hbusy, startTx_busy (s := lineUp es s) hbusy]
    rfl

theorem step_operandWrite {r : Reg} (hr : r.isOperand = true) (v : Nat) :
    step (lineUp (.regWrite r.num v :: es) s) = .next (lineUp es (writeReg r v s)) := by
  obtain ⟨hcmd, hrx⟩ := ne_port_of_isOperand hr
  rw [step_lineUp, ← writeReg_operand_lineUp es s hr]
  exact hostWrite_eq v _ (regOfNum_num r) hcmd hrx

theorem step_fenc : step (lineUp (.regWrite 0x18 6 :: es) s) = .next (lineUp es (startTx s)) := by
  rw [step_lineUp, ← startTx_lineUp]
  rfl

/-- Reads of TX_DATA issued one by one are pops in a row. -/
theorem run_popReads (n : Nat) :
    Host.Core.run core n (lineUp (List.replicate n (.regRead 0x31)) s) = .next (popReads n s) := by
  induction n generalizing s with
  | zero => rfl
  | succ n ih => rw [List.replicate_succ, run_succ_of_step n (step_pop _ s), ih, popReads]

end Expansion

/-- Settles O52: one step per event of the expansion, in every state. -/
theorem txframeRefinesItsExpansion : Obligations.TxframeRefinesItsExpansion := by
  intro s r h c
  rw [txframeEvents]
  exact (run_succ_of_step 86 (step_operandWrite _ s (r := .fRemote) rfl r.toNat)).trans <|
    (run_succ_of_step 85 (step_operandWrite _ _ (r := .fChannel) rfl h.toNat)).trans <|
    (run_succ_of_step 84 (step_operandWrite _ _ (r := .fCommand) rfl c.toNat)).trans <|
    (run_succ_of_step 83 (step_fenc _ _)).trans (run_popReads _ 83)

/-! ### The shape of every train (R198) -/

section Shape
variable (g : CfgRegs)

/-- The data pulses of a train are the pairs of its bits (30_encoding.md R101). -/
theorem train_data (w : FrameWord) : ((train g w).drop 2).take 80 = (frameBits w).flatMap (pairDurations g) := by
  have hlen : ((frameBits w).flatMap (pairDurations g)).length = 80 := by
    simp [List.length_flatMap, pairDurations]
  rw [train_eq, List.drop_succ_cons, List.drop_succ_cons, List.drop_zero, List.take_left' hlen]

/-- Each pair holds one short and one long pulse. -/
theorem count_pairDurations (hne : g.tShort ≠ g.tLong) (x : Bool) :
    (pairDurations g x).count g.tShort = 1 ∧ (pairDurations g x).count g.tLong = 1 := by
  cases x <;> simp [pairDurations, hne, hne.symm]

theorem count_flatMap_pairDurations (hne : g.tShort ≠ g.tLong) (xs : List Bool) :
    (xs.flatMap (pairDurations g)).count g.tShort = xs.length ∧
      (xs.flatMap (pairDurations g)).count g.tLong = xs.length := by
  induction xs with
  | nil => exact ⟨rfl, rfl⟩
  | cons x xs ih =>
    obtain ⟨hshort, hlong⟩ := count_pairDurations g hne x
    obtain ⟨ihshort, ihlong⟩ := ih
    simp only [List.flatMap_cons, List.count_append, List.length_cons]
    omega

theorem sum_flatMap_pairDurations (xs : List Bool) :
    ((xs.flatMap (pairDurations g)).map BitVec.toNat).sum = xs.length * (g.tShort.toNat + g.tLong.toNat) := by
  induction xs with
  | nil => simp
  | cons x xs ih =>
    have hpair : ((pairDurations g x).map BitVec.toNat).sum = g.tShort.toNat + g.tLong.toNat := by
      cases x <;> simp [pairDurations, Nat.add_comm]
    rw [List.flatMap_cons, List.map_append, List.sum_append, hpair, ih, List.length_cons, Nat.succ_mul, Nat.add_comm]

/-- The data pulses last as long for every word. -/
theorem sum_train_data (w : FrameWord) :
    ((((train g w).drop 2).take 80).map BitVec.toNat).sum = 40 * (g.tShort.toNat + g.tLong.toNat) := by
  rw [train_data, sum_flatMap_pairDurations, frameBits_length]

theorem sum_train (w : FrameWord) :
    ((train g w).map BitVec.toNat).sum =
      g.tPreamble.toNat + g.tSync.toNat + 40 * (g.tShort.toNat + g.tLong.toNat) + g.tGap.toNat := by
  have hdata := sum_flatMap_pairDurations g (frameBits w)
  rw [frameBits_length] at hdata
  rw [train_eq, List.map_cons, List.map_cons, List.map_append, List.sum_cons, List.sum_cons, List.sum_append, hdata]
  simp only [List.map_cons, List.map_nil, List.sum_singleton]
  omega

/-- Bit 16 of a port word is its `last` flag (30_encoding.md R103). -/
theorem trainPortWord_last_bit (w : FrameWord) (k : Nat) : (trainPortWord g w k).getLsbD 16 = decide (k = 82) := by
  rw [trainPortWord, BitVec.getLsbD_append]
  simp

end Shape

/-- Settles O54: counts and sums pair by pair, and the reset profile put in. -/
theorem everyTrainHasTheSameShape : Obligations.EveryTrainHasTheSameShape := by
  intro g w
  refine ⟨?length, ?counts, sum_train_data g w, sum_train g w, ?resetData, ?resetTrain, ?last⟩
  case length => simp [train]
  case counts =>
    intro hne
    have hcounts := count_flatMap_pairDurations g hne (frameBits w)
    rwa [frameBits_length, ← train_data] at hcounts
  case resetData => exact sum_train_data State.reset.cfg w
  case resetTrain => exact sum_train State.reset.cfg w
  case last => exact fun k _ => trainPortWord_last_bit g w k

/-! ### BitDecode of a train (R200, 41_bitdecoder.md R141) -/

theorem dataCategories_eq (w : FrameWord) : dataCategories w = (frameBits w).flatMap (pairReads .short .long) := by
  rw [dataCategories]
  congr 1
  funext b
  cases b <;> rfl

/-- The pair of a bit reads back as the bit (30_encoding.md R94, R95). -/
theorem decodeData_pairReads_append (x : Bool) (n : Nat) (cs : List Category) :
    decodeData (n + 1) (pairReads .short .long x ++ cs) = (decodeData n cs).map fun r => (x :: r.1, r.2) := by
  cases x
  · exact decodeData_succ_pair n cs (a := .short) (b := .long) nofun nofun rfl
  · exact decodeData_succ_pair n cs (a := .long) (b := .short) nofun nofun rfl

/-- The pairs of a run of bits, closed by the end-gap, decode to the bits with the GAP seen. -/
theorem decodeData_sentPairs (xs : List Bool) :
    decodeData xs.length (xs.flatMap (pairReads .short .long) ++ [.gap]) = .ok (xs, true) := by
  induction xs with
  | nil => exact decodeData_zero_cons_gap []
  | cons x xs ih =>
    rw [List.length_cons, List.flatMap_cons, List.append_assoc, decodeData_pairReads_append, ih]
    rfl

/-- The categories of a train of the word, with the category its preamble reads as (30_encoding.md R101). -/
def trainCategories (p : Category) (w : FrameWord) : List Category :=
  p :: .sync :: ((frameBits w).flatMap (pairReads .short .long) ++ [.gap])

theorem bitDecode_trainCategories {p : Category} (hp : p ≠ .sync) (w : FrameWord) :
    bitDecode (trainCategories p w) = .ok (frameBits w, true) := by
  have hdata := decodeData_sentPairs (frameBits w)
  rw [frameBits_length] at hdata
  rw [trainCategories, bitDecode_cons_of_ne_sync _ hp, bitDecode_cons_sync, hdata]

theorem LoopCompatible.preamble_ne_sync {g : CfgRegs} (hg : LoopCompatible g) :
    classify g g.tPreamble.toNat ≠ .sync := by
  obtain ⟨-, -, -, -, hpreamble⟩ := hg
  exact hpreamble

/-- A loop-compatible profile is one whose windows read its own trains as trains. -/
theorem train_reads_as_trainCategories {g : CfgRegs} (hg : LoopCompatible g) (w : FrameWord) :
    ((train g w).map fun d => classify g d.toNat) = trainCategories (classify g g.tPreamble.toNat) w := by
  obtain ⟨hshort, hlong, hsync, hgap, -⟩ := hg
  rw [train_categories, hshort, hlong, hsync, hgap, trainCategories]

theorem trainSamples_cat (g : CfgRegs) (p : Category) (w : FrameWord) :
    trainSamples g .cat p w = (trainCategories p w).map codeSample := by
  rw [trainSamples, dataCategories_eq]
  rfl

/-- The codes of categories read as the categories (30_encoding.md R92, R103). -/
theorem map_catDecode_codeSample (cs : List Category) :
    ((cs.map codeSample).map fun v => catDecode (v.setWidth 3)) = cs := by
  simp [Function.comp_def]

/-! ### A train received (R200, 41_bitdecoder.md R152) -/

section Receive
variable {s : State} {w : FrameWord}

/-- The result registers of a good burst that collected the word `w` (42_framecodec_decode.md R165). -/
def wordResults (g : CfgRegs) (w : FrameWord) (gap : Bool) : RxResults :=
  let x := checksum g (wordRemote w) (wordChannel w) (wordCommand w)
  { ok := true, err := .noError, ckValid := decide (wordCheck w = x), gapSeen := gap
    remote := wordRemote w, channel := wordChannel w, command := wordCommand w
    checksum := wordCheck w, expected := x, bits := w }

theorem goodResults_eq_wordResults (s : State) : goodResults s = wordResults s.cfg s.rx.sr s.rx.gap := rfl

theorem burstOutcome_eq_ok_iff {gap : Bool} :
    burstOutcome s = .ok (w, gap) ↔ endErr s.rx = .noError ∧ s.rx.sr = w ∧ s.rx.gap = gap := by
  unfold burstOutcome
  split
  next hgood => simp [hgood]
  next hbad => simp [hbad]

/-- A burst that comes to a word writes the results of that word, leaves the engine idle, and changes nothing outside
the RX engine, its results and rx_done (42_framecodec_decode.md R165). -/
theorem finishBurst_endCheck_of_outcome {t : State} {gap : Bool} (hshape : t = s.withRx t.rx)
    (hout : burstOutcome t = .ok (w, gap)) :
    ∃ e : RxEngine, e.phase = .idle ∧ e.sr = w ∧
      finishBurst (endCheck t) =
        ((s.withRx e).withRxRes (wordResults s.cfg w gap)).withFlags { s.flags with rxDone := true } := by
  obtain ⟨hgood, hsr, hgap⟩ := burstOutcome_eq_ok_iff.1 hout
  refine ⟨{ t.rx with err := .noError, phase := .idle }, rfl, hsr, ?_⟩
  rw [endCheck_eq, hgood, finishBurst, State.withRx_rx, if_pos rfl, goodResults_eq_wordResults, State.withRx_rx, hsr,
    hgap, hshape]
  rfl

/-- From a freshly armed decoder, whatever the shift register held, the categories of a train come to its word with
the GAP seen. -/
theorem burstOutcome_trainCategories {p : Category} (hp : p ≠ .sync) (w : FrameWord) (hphase : s.rx.phase = .hunt)
    (hfresh : Collecting 40 { s.rx with phase := .data }) :
    burstOutcome (stepCategories (trainCategories p w) s) = .ok (w, true) := by
  rw [burstOutcome_hunt _ hphase hfresh, bitDecode_trainCategories hp, Except.map, shiftedIn,
    foldl_shiftIn_eq_wordOfBits _ (frameBits_length w), wordOfBits_frameBits]

/-- A burst read as the categories of a train leaves the word of the train in the results. -/
theorem pushBurst_of_trainCategories {p : Category} {vs : List Duration} {read : Duration → Category} (hp : p ≠ .sync)
    (hphase : s.rx.phase = .hunt) (hfresh : Collecting 40 { s.rx with phase := .data })
    (hread : ∀ v, SampleHasCategory s v (read v)) (hvs : vs.map read = trainCategories p w) :
    ∃ e : RxEngine, e.phase = .idle ∧ e.sr = w ∧
      pushBurst vs s =
        ((s.withRx e).withRxRes (wordResults s.cfg w true)).withFlags { s.flags with rxDone := true } := by
  have hne : vs ≠ [] := by rintro rfl; contradiction
  rw [pushBurst_eq_stepCategories hne (by simp [hphase]) hread, hvs]
  exact finishBurst_endCheck_of_outcome (stepCategories_shape _ s) (burstOutcome_trainCategories hp w hphase hfresh)

end Receive

/-- A train pushed into a freshly armed BITDEC, or into RXBURST where its durations read as its categories. -/
theorem pushBurst_trainSamples {s : State} {p : Category} (w : FrameWord) (hp : p ≠ .sync) (hphase : s.rx.phase = .hunt)
    (hfresh : Collecting 40 { s.rx with phase := .data })
    (hmode : s.rx.mode = .cat ∨ (s.rx.mode = .dur ∧ LoopCompatible s.cfg)) :
    ∃ e : RxEngine, e.phase = .idle ∧ e.sr = w ∧
      pushBurst (trainSamples s.cfg s.rx.mode p w) s =
        ((s.withRx e).withRxRes (wordResults s.cfg w true)).withFlags { s.flags with rxDone := true } := by
  rcases hmode with hmode | ⟨hmode, hloop⟩
  · refine pushBurst_of_trainCategories hp hphase hfresh (fun v => .inl ⟨hmode, rfl⟩) ?_
    rw [hmode, trainSamples_cat, map_catDecode_codeSample]
  · refine pushBurst_of_trainCategories hloop.preamble_ne_sync hphase hfresh (fun v => .inr ⟨hmode, rfl⟩) ?_
    rw [hmode, trainSamples, train_reads_as_trainCategories hloop]

/-- Settles O47: TRAIN is its samples pushed as one burst, which `pushBurst_trainSamples` follows. -/
theorem trainDecodesToItsFrameWord : Obligations.TrainDecodesToItsFrameWord := by
  intro s p w hp hphase hhalf hcnt herr hgap hmode
  have hfresh : Collecting 40 { s.rx with phase := .data } := ⟨rfl, hhalf, by simp [hcnt], herr, hgap⟩
  obtain ⟨e, hidle, hsr, hburst⟩ := pushBurst_trainSamples w hp hphase hfresh hmode
  exact ⟨e, hidle, hsr, congrArg Host.Outcome.next hburst⟩

/-- RxDecode of a train in a loop-compatible configuration: the frame parser on the word's own bits. -/
theorem rxDecode_train {g : CfgRegs} (hg : LoopCompatible g) (w : FrameWord) :
    rxDecode g (train g w) = parseDecoded g (.ok (frameBits w, true)) := by
  rw [rxDecode, train_reads_as_trainCategories hg, bitDecode_trainCategories hg.preamble_ne_sync]

/-- Settles O55: RxDecode of the train parses the word's own bits, and an RXBURST burst comes to RxDecode (O39). -/
theorem sentFrameIsReceivedUnchanged : Obligations.SentFrameIsReceivedUnchanged := by
  refine ⟨by decide, fun s r h c hidle hloop => ?_⟩
  obtain ⟨-, hparse⟩ := parseAndSerialiseAreInverse
  have hdecode : rxDecode s.cfg (train s.cfg (frameWord s.cfg r h c)) =
      .ok
        ({ remote := r, channel := h, command := c, check := checksum s.cfg r h c
           expected := checksum s.cfg r h c, valid := true }, true) := by
    rw [rxDecode_train hloop, parseDecoded, hparse]
  have hne : train s.cfg (frameWord s.cfg r h c) ≠ [] := by simp [train]
  obtain ⟨e, he, hburst⟩ := rxburstComputesRxDecode s _ hidle hne
  rw [hdecode] at hburst
  exact ⟨hdecode, e, he, hburst⟩

end Sys2Proof.Machine
end

section
/-! PROOFS. The statements of 45_control.md: which instruction a step runs (R210), when a command is refused (R211),
what an accepted RX command arms (R212), SRESET (R214) and the reserved op code (R215). -/

namespace Sys2Proof

/-! ### The op code of a command word (30_encoding.md R104, R109) -/

/-- Bits above `v[2:0]` do not reach the decoder. -/
theorem decodeOp_congr_mod {v k : Nat} (h : v % 8 = k % 8) : decodeOp v = decodeOp k := by
  have hbits : BitVec.ofNat 3 v = BitVec.ofNat 3 k := BitVec.eq_of_toNat_eq (by simpa using h)
  rw [decodeOp, decodeOp, hbits]

/-! ### Words of the opcode table (log entry 8) -/

theorem tableFormat_cases {nbits : Nat} {f : Format} (h : tableFormat nbits = some f) :
    (nbits = 8 ∧ f = .op) ∨ (nbits = 24 ∧ f = .port17) ∨ (nbits = 40 ∧ f = .frame40) := by
  unfold tableFormat at h
  split_ifs at h with h8 h24 h40
  · exact .inl ⟨h8, (Option.some.inj h).symm⟩
  · exact .inr (.inl ⟨h24, (Option.some.inj h).symm⟩)
  · exact .inr (.inr ⟨h40, (Option.some.inj h).symm⟩)

theorem decodeTableWord_eq_some_iff (nbits w : Nat) (i : Instr) :
    decodeTableWord nbits w = some i ↔ ∃ f : Format, tableFormat nbits = some f ∧ decode f [w] = .ok i := by
  unfold decodeTableWord
  cases tableFormat nbits with
  | none => simp
  | some f => cases hdec : decode f [w] <;> simp [hdec]

end Sys2Proof

namespace Sys2Proof.Machine

/-! ### The instruction a step runs (R210) -/

theorem runWords_of_decode {f : Format} {ws : List Nat} {i : Instr} (h : decode f ws = .ok i) (s : State) :
    runWords f ws s = exec i s := by
  rw [runWords, h]

/-- The event that carries a table word presents it in the word's format, whichever port it goes through. -/
theorem performEvent_tableEvent {nbits : Nat} {f : Format} (h : tableFormat nbits = some f) (w : Nat) (s : State) :
    performEvent (tableEvent nbits w) s = runWords f [w] s := by
  obtain ⟨rfl, rfl⟩ | ⟨rfl, rfl⟩ | ⟨rfl, rfl⟩ := tableFormat_cases h
  · rfl
  · rfl
  · rfl

theorem step_withFetchWord (nbits w : Nat) (s : State) :
    step (s.withFetchWord nbits w) = performEvent (tableEvent nbits w) s := rfl

/-- A write of CMD runs the operation of any word with the same low three bits. -/
theorem step_cmdWrite_of_mod {s : State} {rest : List HostEvent} {v k : Nat} {i : Instr}
    (hp : s.host.pending = .regWrite 0x18 v :: rest) (hk : decodeOp k = i) (hmod : v % 8 = k % 8) :
    step s = exec i (s.withHost { s.host with pending := rest }) := by
  rw [step_cons hp, performEvent, hostWrite_cmd, decodeOp_congr_mod hmod, hk]

/-- Settles O7: each of the three events hands its words to the decoder, in the format of the place. -/
theorem stepRunsTheDecodedInstruction : Obligations.StepRunsTheDecodedInstruction := by
  intro s rest i
  refine ⟨fun v hp hdec => ?cmd, fun v hp hdec => ?rxData, fun f ws hp hdec => ?present⟩
  all_goals
    rw [step_cons hp]
    exact runWords_of_decode hdec _

/-- Settles O8: a word has a table format only when an event carries it in that format. -/
theorem tableWordRunsNext : Obligations.TableWordRunsNext := by
  intro s nbits w i h
  obtain ⟨f, hformat, hdec⟩ := (decodeTableWord_eq_some_iff nbits w i).1 h
  rw [step_withFetchWord, performEvent_tableEvent hformat, runWords_of_decode hdec]

/-- Settles O9: the residue of `v` is itself a command word with the same low three bits. -/
theorem commandWriteSelectsByLowThreeBits : Obligations.CommandWriteSelectsByLowThreeBits := by
  intro s v rest hp
  exact ⟨step_cmdWrite_of_mod (k := 0) hp rfl, step_cmdWrite_of_mod (k := 1) hp rfl,
    step_cmdWrite_of_mod (k := 2) hp rfl, step_cmdWrite_of_mod (k := 3) hp rfl, step_cmdWrite_of_mod (k := 4) hp rfl,
    step_cmdWrite_of_mod (k := 5) hp rfl, step_cmdWrite_of_mod (k := 6) hp rfl, step_cmdWrite_of_mod (k := 7) hp rfl⟩

/-! ### Commands accepted and refused (R211, R212) -/

theorem exec_rxburst (s : State) : exec .rxburst s = .next (startRx .dur .hunt s) := rfl
theorem exec_bitdec (s : State) : exec .bitdec s = .next (startRx .cat .hunt s) := rfl
theorem exec_fdec (s : State) : exec .fdec s = .next (startRx .bit .bits s) := rfl
theorem exec_fenc (s : State) : exec .fenc s = .next (startTx s) := rfl

/-- Arming leaves nothing of the engine, its results or rx_done as it was, and nothing else changed. -/
theorem armRx_eq (m : RxMode) (p : RxPhase) (s : State) :
    armRx m p s =
      ((s.withRx
          { phase := p, mode := m, half := false, first := 0, cnt := 0, sr := 0, err := .noError
            gap := false }).withRxRes RxResults.zero).withFlags { s.flags with rxDone := false } := rfl

/-- Settles O22: an idle engine is armed, each command in its own mode and phase. -/
theorem acceptedReceiveCommandsArmTheEngine : Obligations.AcceptedReceiveCommandsArmTheEngine := by
  intro s hidle
  refine ⟨?rxburst, ?bitdec, ?fdec⟩
  case rxburst => rw [exec_rxburst, startRx_idle _ _ hidle, armRx_eq]
  case bitdec => rw [exec_bitdec, startRx_idle _ _ hidle, armRx_eq]
  case fdec => rw [exec_fdec, startRx_idle _ _ hidle, armRx_eq]

/-- Settles O23: `startRx` asks only whether the RX engine is busy, `startTx` only whether the TX engine is. -/
theorem commandsForABusyEngineAreRefused : Obligations.CommandsForABusyEngineAreRefused := by
  intro s
  refine ⟨fun cmd hcmd => ?rx, fun hbusy => ?fencBusy, fun hidle => ?fencIdle⟩
  case rx =>
    obtain ⟨m, p, hp, hexec⟩ := exec_rxCommand hcmd
    refine ⟨fun hbusy => ?refused, fun hidle => ⟨armRx m p s, ?accepted, ?armed, armRx_flags m p s⟩⟩
    case refused => rw [hexec, startRx_busy m p hbusy, setBusyErr]
    case accepted => rw [hexec, startRx_idle m p hidle]
    case armed => rwa [armRx_rx]
  case fencBusy => rw [exec_fenc, startTx_busy hbusy, setBusyErr]
  case fencIdle => exact ⟨_, acceptedFencLatchesTheFrameWord s hidle, rfl⟩

/-! ### SRESET and the reserved op code (R214, R215) -/

theorem exec_sreset (s : State) : exec .sreset s = .next (softReset s) := rfl
theorem exec_reserved0 (s : State) : exec .reserved0 s = .next (setIllOp s) := rfl

/-- Settles O26: the state after SRESET is the reset state with configuration, operands and host side put back. -/
theorem softResetClearsAllButConfigurationAndOperands : Obligations.SoftResetClearsAllButConfigurationAndOperands := by
  intro s
  rw [exec_sreset, softReset_eq]
  rfl

/-- Settles O28: RESERVED0 is `setIllOp`, in every state. -/
theorem reservedCommandOnlySetsIllOp : Obligations.ReservedCommandOnlySetsIllOp := by
  intro s
  rw [exec_reserved0, setIllOp]

end Sys2Proof.Machine
end

section
/-! PROOFS. The statements of 60_exceptions.md: where each error code is taken (R224), and that every instruction,
every event and every step is defined in every state (R231). -/

namespace Sys2Proof.Machine

/-! ### Where an error is taken (R224; log entry 6) -/

/-- An error met at the end of a burst goes straight to RX_STATUS: the engine is idle, with no FLUSH phase, and no
field of the frame is written (R224, 42_framecodec_decode.md R165). -/
theorem finishBurst_recordErr {e : ErrCode} (he : e ≠ .noError) (s : State) :
    finishBurst (recordErr e s) =
      ((s.withRx { s.rx with err := e, phase := .idle }).withRxRes
          { s.rxRes with ok := false, err := e, ckValid := false, gapSeen := false }).withFlags
        { s.flags with rxDone := true } := by
  have herr : (recordErr e s).rx.err ≠ .noError := he
  rw [finishBurst, if_neg herr]
  rfl

theorem exec_errNone (s : State) : exec .errNone s = .next s := rfl

theorem exec_errMalformedPulsePair (s : State) :
    exec .errMalformedPulsePair s =
      .next (if s.rx.phase = .data then raiseErr .malformedPulsePair s else s) := by
  change execErrMalformedPulsePair s = _
  unfold execErrMalformedPulsePair
  cases s.rx.phase with
  | data => rfl
  | idle | hunt | tail | flush | bits => rfl

theorem exec_errUnexpectedLength (s : State) :
    exec .errUnexpectedLength s =
      .next
        (if s.rx.phase = .data ∨ s.rx.phase = .tail then raiseErr .unexpectedLength s
         else if s.rx.phase = .hunt then finishBurst (recordErr .unexpectedLength s)
         else s) := by
  change execErrUnexpectedLength s = _
  unfold execErrUnexpectedLength
  cases s.rx.phase with
  | data | tail => rfl
  | hunt => rfl
  | idle | flush | bits => rfl

theorem exec_errLengthMismatch (s : State) :
    exec .errLengthMismatch s =
      .next (if s.rx.phase = .bits then finishBurst (recordErr .lengthMismatch s) else s) := by
  change execErrLengthMismatch s = _
  unfold execErrLengthMismatch
  cases s.rx.phase with
  | bits => rfl
  | idle | hunt | data | tail | flush => rfl

/-- Settles O48: each row is taken by `raiseErr` during a burst, by `finishBurst` at its end. -/
theorem errorCodesAreTakenWhereTheyArise : Obligations.ErrorCodesAreTakenWhereTheyArise := by
  intro s
  refine ⟨exec_errNone s, ?malformedPulsePair, ?unexpectedLength, ?lengthMismatch⟩
  case malformedPulsePair => rw [exec_errMalformedPulsePair, raiseErr]
  case unexpectedLength => rw [exec_errUnexpectedLength, raiseErr, finishBurst_recordErr (e := .unexpectedLength) nofun]
  case lengthMismatch => rw [exec_errLengthMismatch, finishBurst_recordErr (e := .lengthMismatch) nofun]

/-! ### Totality (R231) -/

/-- Only the error rows ask for the phase before they answer, and they answer in each. -/
theorem exec_total (i : Instr) (s : State) : ∃ t : State, exec i s = .next t := by
  cases i with
  | errMalformedPulsePair => exact ⟨_, exec_errMalformedPulsePair s⟩
  | errUnexpectedLength => exact ⟨_, exec_errUnexpectedLength s⟩
  | errLengthMismatch => exact ⟨_, exec_errLengthMismatch s⟩
  | _ => exact ⟨_, rfl⟩

/-- Words that decode run as their instruction; the others are no fault either (log entry 10). -/
theorem runWords_total (f : Format) (ws : List Nat) (s : State) : ∃ t : State, runWords f ws s = .next t := by
  obtain ⟨i, -, hrun⟩ | ⟨-, hrun⟩ := runWords_cases f ws s
  · rw [hrun]
    exact exec_total i s
  · exact ⟨_, hrun⟩

theorem hostWrite_total (n v : Nat) (s : State) : ∃ t : State, hostWrite n v s = .next t := by
  obtain ⟨f, hrun⟩ | ⟨r, -, hrun⟩ | hrun := hostWrite_cases n v s
  · rw [hrun]
    exact runWords_total f [v] s
  · exact ⟨_, hrun⟩
  · exact ⟨_, hrun⟩

theorem performEvent_total (e : HostEvent) (s : State) : ∃ t : State, performEvent e s = .next t := by
  cases e with
  | regWrite n v => exact hostWrite_total n v s
  | regRead n => exact ⟨hostRead n s, rfl⟩
  | reset => exact ⟨resetBlock s, rfl⟩
  | present f ws => exact runWords_total f ws s

theorem step_total (s : State) : ∃ t : State, step s = .next t := by
  cases hp : s.host.pending with
  | nil => exact ⟨s, step_nil hp⟩
  | cons e rest =>
    rw [step_cons hp]
    exact performEvent_total e _

/-- Settles O11: words run as instructions, events as words or register accesses, steps as events. -/
theorem everyEventIsDefinedInEveryState : Obligations.EveryEventIsDefinedInEveryState :=
  ⟨exec_total, performEvent_total, step_total⟩

end Sys2Proof.Machine
end

section
/-! PROOFS. The statement of 70_reset_and_hazards.md: SRESET is reset, with configuration and operands put back
(R251). -/

namespace Sys2Proof.Machine

/-- The reset event answers in every state, with the reset state beside the host's own side (R250, log entry 11). -/
theorem performEvent_reset (s : State) : performEvent .reset s = .next (resetBlock s) := rfl

/-- Reset puts back the host's side alone; SRESET puts back the configuration and the operands as well. -/
theorem softReset_eq_resetBlock (s : State) :
    softReset s = ((resetBlock s).withCfg s.cfg).withOpr s.opr := by
  rw [softReset_eq, resetBlock, State.withOpr_withHost, State.withCfg_withHost]

/-- Settles O27: the state of the reset event is `resetBlock`, and SRESET is that with its two records put back. -/
theorem softResetIsResetButForWhatItKeeps : Obligations.SoftResetIsResetButForWhatItKeeps := by
  intro s
  refine ⟨resetBlock s, performEvent_reset s, ?_⟩
  rw [exec_sreset, softReset_eq_resetBlock]

end Sys2Proof.Machine
end
